-- ==== Sys2Proof/Word.lean ====
section
/-!
DEFINITION. The machine's words and the small types every file shares: 32-bit words, 64-bit words, register indices,
the four flags, the shift directions and the ten interrupts.
-/

namespace Sys2Proof

/-- A 32-bit word: a register, an address, an instruction word, a constant (R7, R9). -/
abbrev Word := BitVec 32

/-- A 64-bit word: a fetch word, a register pair, a DMA data register (R7, R9). -/
abbrev DWord := BitVec 64

/-- The index of a general or an address register (R20, R22). -/
abbrev RegIx := Fin 8

/-- A 6-bit register code of Table 5-8 (R40). What a code names, in each direction, is in Machine/Operands.lean. -/
abbrev RegCode := BitVec 6

/-- The four flags of PSWR (R30). -/
structure Flags where
  n : Bool
  z : Bool
  v : Bool
  c : Bool
deriving DecidableEq, Repr, Inhabited

/-- The direction of a shift or rotate (R246). -/
inductive Dir where
  | left
  | right
deriving DecidableEq, Repr, Inhabited

/-- The two timers (R34). -/
inductive Timer where
  | t0
  | t1
deriving DecidableEq, Repr, Inhabited

/-- The ten interrupts in the order of Table 4-1, highest priority first (R301). -/
inductive Irq where
  | timer0
  | overflow
  | illegal
  | external
  | dmaIn1
  | dmaIn0
  | dmaOut1
  | dmaOut0
  | timer1
  | trace
deriving DecidableEq, Repr

end Sys2Proof
end

