-- ==== Sys2Proof/Syntax.lean ====
section
/-!
DEFINITION. The syntax of the NMRC: the modes and conditions of 5.2 to 5.5 and the one inductive `Instr`, with one
constructor for each row of spec/opcode_table.json (30_encoding.md R137).

An instruction word holds a transfer part and an OP part that execute together (R14, R125). Each transfer row is a
constructor, and stands alone for a word whose OP part is null (R248). Each OP row is a constructor that carries, as its
last operand `t`, the transfer part of the same word: the word `LD.R ... ; ADD.W ...` is `.addW s2 s1 d (.ldR p am i r)`, and
`NOP.R ; ADD.W ...` is `.addW s2 s1 d (.nopR p)`. So every word is one term. That `t` is a transfer row is a check of
WellFormed. Bits the spec calls don't-care (R115) are no operands; the ARi field of a mode that does not use it, the GRsrc1
field of the one-operand operations and the GRdst field of the `.F` forms are kept as operands and ignored. Log 1, 35.
-/

namespace Sys2Proof

/-- AM, Table 5-1, without its reserved code (R141). -/
inductive AM where
  | gr          -- 000: [GRi]
  | preAddGr    -- 001: [ARi+=GRi]
  | loadGr      -- 010: [ARi=GRi]
  | ar          -- 100: [ARi]
  | postAddGr   -- 101: [ARi]+=GRi
  | preDec      -- 110: [--ARi]
  | postInc     -- 111: [ARi++]
deriving DecidableEq, Repr

/-- AMC, Table 5-2, without its reserved code (R143). -/
inductive AMC where
  | absolute    -- 00: [#K]
  | preAddK     -- 01: [ARi+=#K]
  | loadK       -- 10: [ARi=#K]
deriving DecidableEq, Repr

/-- RM, Table 5-3, without its reserved code (R191). -/
inductive RM where
  | ar          -- 00
  | arAddGr     -- 01
  | gr          -- 10
deriving DecidableEq, Repr

/-- RMC, Table 5-4, without its reserved code (R192). -/
inductive RMC where
  | ar          -- 00
  | arAddK      -- 01
  | k           -- 10
deriving DecidableEq, Repr

/-- PM, Table 5-5 (R213). -/
inductive PM where
  | ar          -- 00
  | arAddGr     -- 01
  | gr          -- 10
  | pcAddGr     -- 11
deriving DecidableEq, Repr

/-- PMC, Table 5-6 (R214). -/
inductive PMC where
  | ar          -- 00
  | arAddK      -- 01
  | k           -- 10
  | pcAddK      -- 11
deriving DecidableEq, Repr

/-- Condition, Table 5-7, under the spec's names, in the order of the codes 0000 to 1111 (R211). -/
inductive Cond where
  | cc
  | vc
  | gz
  | pl
  | gt
  | ge
  | ne
  | al
  | cs
  | vs
  | lez
  | mi
  | le
  | lt
  | eq
  | nv
deriving DecidableEq, Repr

/-- The instructions. `p` is the P bit (R92). -/
inductive Instr where
  /-- RESERVED.AM011: R130 (b), R141: LS.R with the reserved mode AM = 011. -/
  | reservedAm011 (p store : Bool) (i : RegIx) (r : RegCode)
  /-- LD.R: R145. -/
  | ldR (p : Bool) (am : AM) (i : RegIx) (r : RegCode)
  /-- ST.R: R146. -/
  | stR (p : Bool) (am : AM) (i : RegIx) (r : RegCode)
  /-- RESERVED.AMC11: R130 (b), R143: LS.I with the reserved mode AMC = 11. -/
  | reservedAmc11 (p store : Bool) (i : RegIx) (r : RegCode) (k : Word)
  /-- LD.I: R147. -/
  | ldI (p : Bool) (amc : AMC) (i : RegIx) (r : RegCode) (k : Word)
  /-- ST.I: R148. -/
  | stI (p : Bool) (amc : AMC) (i : RegIx) (r : RegCode) (k : Word)
  /-- MOV: R171. -/
  | mov (p : Bool) (rd rs : RegCode)
  /-- PSWRSET: R177. -/
  | pswrSet (p : Bool) (k : Word)
  /-- PSWRRST: R178. -/
  | pswrRst (p : Bool) (k : Word)
  /-- LDC: R175. -/
  | ldc (p : Bool) (rd : RegCode) (k : Word)
  /-- RESERVED.RMC11: R130 (b), R192: ARM.I with the reserved mode RMC = 11. -/
  | reservedRmc11 (p : Bool) (i : RegIx) (j : Fin 4) (k : Word)
  /-- ARM.I: R194. `j` is the 2-bit ARj field; the destination is R103's. -/
  | armI (p : Bool) (rmc : RMC) (i : RegIx) (j : Fin 4) (k : Word)
  /-- NOP.I: R196. The constant is fetched and not used. -/
  | nopI (p : Bool) (k : Word)
  /-- JMP.I: R218. -/
  | jmpI (p : Bool) (pmc : PMC) (i : RegIx) (cond : Cond) (k : Word)
  /-- CALL.I: R219. -/
  | callI (p : Bool) (pmc : PMC) (i : RegIx) (cond : Cond) (k : Word)
  /-- RESERVED.100_11: R130 (a): bits 30:28 = 100 with 21:20 = 11; `a` is 27:22, `b` is 19:16. -/
  | reserved100 (p : Bool) (a : BitVec 6) (b : BitVec 4) (k : Word)
  /-- RESERVED.RM11: R130 (b), R191: ARM.R with the reserved mode RM = 11. -/
  | reservedRm11 (p : Bool) (i : RegIx) (j : Fin 4)
  /-- ARM.R: R193. -/
  | armR (p : Bool) (rm : RM) (i : RegIx) (j : Fin 4)
  /-- NOP.R: R195. -/
  | nopR (p : Bool)
  /-- RESERVED.101: R130 (a): bits 30:28 = 101 with 21:20 not 01; `bits` is 27:16. -/
  | reserved101 (p : Bool) (bits : BitVec 12)
  /-- JMP.R: R216. -/
  | jmpR (p : Bool) (pm : PM) (i : RegIx) (cond : Cond)
  /-- CALL.R: R217. -/
  | callR (p : Bool) (pm : PM) (i : RegIx) (cond : Cond)
  /-- RET: R223. -/
  | ret (p : Bool) (cond : Cond)
  /-- IRET: R224. -/
  | iret (p : Bool) (cond : Cond)
  /-- RESERVED.000: R130 (a): bits 30:28 = 000 outside the jump and return patterns; `bits` is 27:16. -/
  | reserved000 (p : Bool) (bits : BitVec 12)
  /-- UDI: R290: the user defined space, empty in the base core; `bits` is 27:16. -/
  | udi (p : Bool) (bits : BitVec 12)
  /-- ROT: R254. -/
  | rot (count : BitVec 6) (src dst : RegIx) (t : Instr)
  /-- LSH: R255. -/
  | lsh (count : BitVec 6) (src dst : RegIx) (t : Instr)
  /-- ASH: R256. -/
  | ash (count : BitVec 6) (src dst : RegIx) (t : Instr)
  /-- LSHC: R257. -/
  | lshc (count : BitVec 6) (src dst : RegIx) (t : Instr)
  /-- RESERVED.AOP101x: R272: AOP = 101x; `x` is bit 9. -/
  | reservedAop101x (w : BitVec 2) (x : Bool) (s2 s1 d : RegIx) (t : Instr)
  /-- RESERVED.AOP11x1: R272: AOP = 11x1; `x` is bit 10. -/
  | reservedAop11x1 (w : BitVec 2) (x : Bool) (s2 s1 d : RegIx) (t : Instr)
  /-- RESERVED.AOP111x: R272: AOP = 1110 (1111 is the row before). -/
  | reservedAop111x (w : BitVec 2) (s2 s1 d : RegIx) (t : Instr)
  /-- W11: R244: W = 11, with the logical (`arith` false) or arithmetical code in 12:9. -/
  | w11 (arith : Bool) (code : BitVec 4) (s2 s1 d : RegIx) (t : Instr)
  /-- LOG.0.W: R258, LOP = 0, W = 01. -/
  | log0W (s2 s1 d : RegIx) (t : Instr)
  /-- LOG.0.F: R258, LOP = 0, W = 10. -/
  | log0F (s2 s1 d : RegIx) (t : Instr)
  /-- LOG.1.W: R258, LOP = 1, W = 01. -/
  | log1W (s2 s1 d : RegIx) (t : Instr)
  /-- LOG.1.F: R258, LOP = 1, W = 10. -/
  | log1F (s2 s1 d : RegIx) (t : Instr)
  /-- LOG.2.W: R258, LOP = 2, W = 01. -/
  | log2W (s2 s1 d : RegIx) (t : Instr)
  /-- LOG.2.F: R258, LOP = 2, W = 10. -/
  | log2F (s2 s1 d : RegIx) (t : Instr)
  /-- LOG.3.W: R258, LOP = 3, W = 01. -/
  | log3W (s2 s1 d : RegIx) (t : Instr)
  /-- LOG.3.F: R258, LOP = 3, W = 10. -/
  | log3F (s2 s1 d : RegIx) (t : Instr)
  /-- LOG.4.W: R258, LOP = 4, W = 01. -/
  | log4W (s2 s1 d : RegIx) (t : Instr)
  /-- LOG.4.F: R258, LOP = 4, W = 10. -/
  | log4F (s2 s1 d : RegIx) (t : Instr)
  /-- LOG.5.W: R258, LOP = 5, W = 01. -/
  | log5W (s2 s1 d : RegIx) (t : Instr)
  /-- LOG.5.F: R258, LOP = 5, W = 10. -/
  | log5F (s2 s1 d : RegIx) (t : Instr)
  /-- LOG.6.W: R258, LOP = 6, W = 01. -/
  | log6W (s2 s1 d : RegIx) (t : Instr)
  /-- LOG.6.F: R258, LOP = 6, W = 10. -/
  | log6F (s2 s1 d : RegIx) (t : Instr)
  /-- LOG.7.W: R258, LOP = 7, W = 01. -/
  | log7W (s2 s1 d : RegIx) (t : Instr)
  /-- LOG.7.F: R258, LOP = 7, W = 10. -/
  | log7F (s2 s1 d : RegIx) (t : Instr)
  /-- LOG.8.W: R258, LOP = 8, W = 01. -/
  | log8W (s2 s1 d : RegIx) (t : Instr)
  /-- LOG.8.F: R258, LOP = 8, W = 10. -/
  | log8F (s2 s1 d : RegIx) (t : Instr)
  /-- LOG.9.W: R258, LOP = 9, W = 01. -/
  | log9W (s2 s1 d : RegIx) (t : Instr)
  /-- LOG.9.F: R258, LOP = 9, W = 10. -/
  | log9F (s2 s1 d : RegIx) (t : Instr)
  /-- LOG.10.W: R258, LOP = 10, W = 01. -/
  | log10W (s2 s1 d : RegIx) (t : Instr)
  /-- LOG.10.F: R258, LOP = 10, W = 10. -/
  | log10F (s2 s1 d : RegIx) (t : Instr)
  /-- LOG.11.W: R258, LOP = 11, W = 01. -/
  | log11W (s2 s1 d : RegIx) (t : Instr)
  /-- LOG.11.F: R258, LOP = 11, W = 10. -/
  | log11F (s2 s1 d : RegIx) (t : Instr)
  /-- LOG.12.W: R258, LOP = 12, W = 01. -/
  | log12W (s2 s1 d : RegIx) (t : Instr)
  /-- LOG.12.F: R258, LOP = 12, W = 10. -/
  | log12F (s2 s1 d : RegIx) (t : Instr)
  /-- LOG.13.W: R258, LOP = 13, W = 01. -/
  | log13W (s2 s1 d : RegIx) (t : Instr)
  /-- LOG.13.F: R258, LOP = 13, W = 10. -/
  | log13F (s2 s1 d : RegIx) (t : Instr)
  /-- LOG.14.W: R258, LOP = 14, W = 01. -/
  | log14W (s2 s1 d : RegIx) (t : Instr)
  /-- LOG.14.F: R258, LOP = 14, W = 10. -/
  | log14F (s2 s1 d : RegIx) (t : Instr)
  /-- LOG.15.W: R258, LOP = 15, W = 01. -/
  | log15W (s2 s1 d : RegIx) (t : Instr)
  /-- LOG.15.F: R258, LOP = 15, W = 10. -/
  | log15F (s2 s1 d : RegIx) (t : Instr)
  /-- SUB.W: R261, W = 01. -/
  | subW (s2 s1 d : RegIx) (t : Instr)
  /-- SUB.F: R261, W = 10. -/
  | subF (s2 s1 d : RegIx) (t : Instr)
  /-- SUBC.W: R262, W = 01. -/
  | subcW (s2 s1 d : RegIx) (t : Instr)
  /-- SUBC.F: R262, W = 10. -/
  | subcF (s2 s1 d : RegIx) (t : Instr)
  /-- INC.W: R263, W = 01. -/
  | incW (s2 s1 d : RegIx) (t : Instr)
  /-- INC.F: R263, W = 10. -/
  | incF (s2 s1 d : RegIx) (t : Instr)
  /-- ADC0.W: R264, W = 01. -/
  | adc0W (s2 s1 d : RegIx) (t : Instr)
  /-- ADC0.F: R264, W = 10. -/
  | adc0F (s2 s1 d : RegIx) (t : Instr)
  /-- DEC.W: R265, W = 01. -/
  | decW (s2 s1 d : RegIx) (t : Instr)
  /-- DEC.F: R265, W = 10. -/
  | decF (s2 s1 d : RegIx) (t : Instr)
  /-- DECC.W: R266, W = 01. -/
  | deccW (s2 s1 d : RegIx) (t : Instr)
  /-- DECC.F: R266, W = 10. -/
  | deccF (s2 s1 d : RegIx) (t : Instr)
  /-- ADD.W: R267, W = 01. -/
  | addW (s2 s1 d : RegIx) (t : Instr)
  /-- ADD.F: R267, W = 10. -/
  | addF (s2 s1 d : RegIx) (t : Instr)
  /-- ADDC.W: R268, W = 01. -/
  | addcW (s2 s1 d : RegIx) (t : Instr)
  /-- ADDC.F: R268, W = 10. -/
  | addcF (s2 s1 d : RegIx) (t : Instr)
  /-- MULF.W: R269, W = 01. -/
  | mulfW (s2 s1 d : RegIx) (t : Instr)
  /-- MULF.F: R269, W = 10. -/
  | mulfF (s2 s1 d : RegIx) (t : Instr)
  /-- MULS.W: R270, W = 01. -/
  | mulsW (s2 s1 d : RegIx) (t : Instr)
  /-- MULS.F: R270, W = 10. -/
  | mulsF (s2 s1 d : RegIx) (t : Instr)
  /-- NEG.W: R271, W = 01. -/
  | negW (s2 s1 d : RegIx) (t : Instr)
  /-- NEG.F: R271, W = 10. -/
  | negF (s2 s1 d : RegIx) (t : Instr)
deriving DecidableEq, Repr

end Sys2Proof
end

