-- ==== Sys2Proof/WellFormed.lean ====
section
/-!
DEFINITION. Which terms of `Instr` stand for an instruction word: the transfer operand of an OP row is a transfer row, the
rows RESERVED.* and LDC hold only words that no row before them in spec/opcode_table.json takes (R137), and an OP row is not
the null OP (R248), whose words are the bare transfer rows.
-/

namespace Sys2Proof

/-- Whether the term is a transfer row (slot T of R137), not an OP row. -/
def Instr.isTransfer : Instr → Bool
  | .reservedAm011 _ _ _ _ => true
  | .ldR _ _ _ _ => true
  | .stR _ _ _ _ => true
  | .reservedAmc11 _ _ _ _ _ => true
  | .ldI _ _ _ _ _ => true
  | .stI _ _ _ _ _ => true
  | .mov _ _ _ => true
  | .pswrSet _ _ => true
  | .pswrRst _ _ => true
  | .ldc _ _ _ => true
  | .reservedRmc11 _ _ _ _ => true
  | .armI _ _ _ _ _ => true
  | .nopI _ _ => true
  | .jmpI _ _ _ _ _ => true
  | .callI _ _ _ _ _ => true
  | .reserved100 _ _ _ _ => true
  | .reservedRm11 _ _ _ => true
  | .armR _ _ _ _ => true
  | .nopR _ => true
  | .reserved101 _ _ => true
  | .jmpR _ _ _ _ => true
  | .callR _ _ _ _ => true
  | .ret _ _ => true
  | .iret _ _ => true
  | .reserved000 _ _ => true
  | .udi _ _ => true
  | .rot _ _ _ _ => false
  | .lsh _ _ _ _ => false
  | .ash _ _ _ _ => false
  | .lshc _ _ _ _ => false
  | .reservedAop101x _ _ _ _ _ _ => false
  | .reservedAop11x1 _ _ _ _ _ _ => false
  | .reservedAop111x _ _ _ _ _ => false
  | .w11 _ _ _ _ _ _ => false
  | .log0W _ _ _ _ => false
  | .log0F _ _ _ _ => false
  | .log1W _ _ _ _ => false
  | .log1F _ _ _ _ => false
  | .log2W _ _ _ _ => false
  | .log2F _ _ _ _ => false
  | .log3W _ _ _ _ => false
  | .log3F _ _ _ _ => false
  | .log4W _ _ _ _ => false
  | .log4F _ _ _ _ => false
  | .log5W _ _ _ _ => false
  | .log5F _ _ _ _ => false
  | .log6W _ _ _ _ => false
  | .log6F _ _ _ _ => false
  | .log7W _ _ _ _ => false
  | .log7F _ _ _ _ => false
  | .log8W _ _ _ _ => false
  | .log8F _ _ _ _ => false
  | .log9W _ _ _ _ => false
  | .log9F _ _ _ _ => false
  | .log10W _ _ _ _ => false
  | .log10F _ _ _ _ => false
  | .log11W _ _ _ _ => false
  | .log11F _ _ _ _ => false
  | .log12W _ _ _ _ => false
  | .log12F _ _ _ _ => false
  | .log13W _ _ _ _ => false
  | .log13F _ _ _ _ => false
  | .log14W _ _ _ _ => false
  | .log14F _ _ _ _ => false
  | .log15W _ _ _ _ => false
  | .log15F _ _ _ _ => false
  | .subW _ _ _ _ => false
  | .subF _ _ _ _ => false
  | .subcW _ _ _ _ => false
  | .subcF _ _ _ _ => false
  | .incW _ _ _ _ => false
  | .incF _ _ _ _ => false
  | .adc0W _ _ _ _ => false
  | .adc0F _ _ _ _ => false
  | .decW _ _ _ _ => false
  | .decF _ _ _ _ => false
  | .deccW _ _ _ _ => false
  | .deccF _ _ _ _ => false
  | .addW _ _ _ _ => false
  | .addF _ _ _ _ => false
  | .addcW _ _ _ _ => false
  | .addcF _ _ _ _ => false
  | .mulfW _ _ _ _ => false
  | .mulfF _ _ _ _ => false
  | .mulsW _ _ _ _ => false
  | .mulsF _ _ _ _ => false
  | .negW _ _ _ _ => false
  | .negF _ _ _ _ => false

/-- The codes of Table 5-8 that the rows PSWRSET and PSWRRST take from LDC (R98). -/
def isPswrMaskCode (r : RegCode) : Bool := r == 0b111101#6 || r == 0b011101#6

/-- The reserved AOP codes (R272). -/
def isReservedAop (code : BitVec 4) : Bool :=
  code == 0b1010#4 || code == 0b1011#4 || code == 0b1101#4 || code == 0b1110#4 || code == 0b1111#4

/-- Bits 27:16 of a word with 30:28 = 000 that is neither a jump or call (21:20 = 10) nor a return (26:20 = 0111111): R130 (a). -/
def isReserved000 (bits : BitVec 12) : Bool :=
  bits.extractLsb' 4 2 != 0b10#2 && bits.extractLsb' 4 7 != 0b0111111#7

/-- Bits 27:16 of a word with 30:28 = 101 and 21:20 not 01: R130 (a). -/
def isReserved101 (bits : BitVec 12) : Bool := bits.extractLsb' 4 2 != 0b01#2

/-- A rotate by a zero count from a register to itself: the null OP (R248). -/
def isNullRot (count : BitVec 6) (src dst : RegIx) : Bool := count == 0#6 && src == dst

/-- A transfer row that stands for a word. -/
def Instr.wellFormedTransfer : Instr → Bool
  | .ldc _ rd _ => !isPswrMaskCode rd
  | .reserved101 _ bits => isReserved101 bits
  | .reserved000 _ bits => isReserved000 bits
  | .reservedAm011 _ _ _ _ => true
  | .ldR _ _ _ _ => true
  | .stR _ _ _ _ => true
  | .reservedAmc11 _ _ _ _ _ => true
  | .ldI _ _ _ _ _ => true
  | .stI _ _ _ _ _ => true
  | .mov _ _ _ => true
  | .pswrSet _ _ => true
  | .pswrRst _ _ => true
  | .reservedRmc11 _ _ _ _ => true
  | .armI _ _ _ _ _ => true
  | .nopI _ _ => true
  | .jmpI _ _ _ _ _ => true
  | .callI _ _ _ _ _ => true
  | .reserved100 _ _ _ _ => true
  | .reservedRm11 _ _ _ => true
  | .armR _ _ _ _ => true
  | .nopR _ => true
  | .jmpR _ _ _ _ => true
  | .callR _ _ _ _ => true
  | .ret _ _ => true
  | .iret _ _ => true
  | .udi _ _ => true
  | .rot _ _ _ _ => false
  | .lsh _ _ _ _ => false
  | .ash _ _ _ _ => false
  | .lshc _ _ _ _ => false
  | .reservedAop101x _ _ _ _ _ _ => false
  | .reservedAop11x1 _ _ _ _ _ _ => false
  | .reservedAop111x _ _ _ _ _ => false
  | .w11 _ _ _ _ _ _ => false
  | .log0W _ _ _ _ => false
  | .log0F _ _ _ _ => false
  | .log1W _ _ _ _ => false
  | .log1F _ _ _ _ => false
  | .log2W _ _ _ _ => false
  | .log2F _ _ _ _ => false
  | .log3W _ _ _ _ => false
  | .log3F _ _ _ _ => false
  | .log4W _ _ _ _ => false
  | .log4F _ _ _ _ => false
  | .log5W _ _ _ _ => false
  | .log5F _ _ _ _ => false
  | .log6W _ _ _ _ => false
  | .log6F _ _ _ _ => false
  | .log7W _ _ _ _ => false
  | .log7F _ _ _ _ => false
  | .log8W _ _ _ _ => false
  | .log8F _ _ _ _ => false
  | .log9W _ _ _ _ => false
  | .log9F _ _ _ _ => false
  | .log10W _ _ _ _ => false
  | .log10F _ _ _ _ => false
  | .log11W _ _ _ _ => false
  | .log11F _ _ _ _ => false
  | .log12W _ _ _ _ => false
  | .log12F _ _ _ _ => false
  | .log13W _ _ _ _ => false
  | .log13F _ _ _ _ => false
  | .log14W _ _ _ _ => false
  | .log14F _ _ _ _ => false
  | .log15W _ _ _ _ => false
  | .log15F _ _ _ _ => false
  | .subW _ _ _ _ => false
  | .subF _ _ _ _ => false
  | .subcW _ _ _ _ => false
  | .subcF _ _ _ _ => false
  | .incW _ _ _ _ => false
  | .incF _ _ _ _ => false
  | .adc0W _ _ _ _ => false
  | .adc0F _ _ _ _ => false
  | .decW _ _ _ _ => false
  | .decF _ _ _ _ => false
  | .deccW _ _ _ _ => false
  | .deccF _ _ _ _ => false
  | .addW _ _ _ _ => false
  | .addF _ _ _ _ => false
  | .addcW _ _ _ _ => false
  | .addcF _ _ _ _ => false
  | .mulfW _ _ _ _ => false
  | .mulfF _ _ _ _ => false
  | .mulsW _ _ _ _ => false
  | .mulsF _ _ _ _ => false
  | .negW _ _ _ _ => false
  | .negF _ _ _ _ => false

/-- A term that stands for an instruction word. -/
def Instr.wellFormed : Instr → Bool
  | .rot count src dst t => !isNullRot count src dst && t.wellFormedTransfer
  | .reservedAop101x w _ _ _ _ t => w != 0#2 && t.wellFormedTransfer
  | .reservedAop11x1 w _ _ _ _ t => w != 0#2 && t.wellFormedTransfer
  | .reservedAop111x w _ _ _ t => w != 0#2 && t.wellFormedTransfer
  | .w11 arith code _ _ _ t => !(arith && isReservedAop code) && t.wellFormedTransfer
  | .lsh _ _ _ t => t.wellFormedTransfer
  | .ash _ _ _ t => t.wellFormedTransfer
  | .lshc _ _ _ t => t.wellFormedTransfer
  | .log0W _ _ _ t => t.wellFormedTransfer
  | .log0F _ _ _ t => t.wellFormedTransfer
  | .log1W _ _ _ t => t.wellFormedTransfer
  | .log1F _ _ _ t => t.wellFormedTransfer
  | .log2W _ _ _ t => t.wellFormedTransfer
  | .log2F _ _ _ t => t.wellFormedTransfer
  | .log3W _ _ _ t => t.wellFormedTransfer
  | .log3F _ _ _ t => t.wellFormedTransfer
  | .log4W _ _ _ t => t.wellFormedTransfer
  | .log4F _ _ _ t => t.wellFormedTransfer
  | .log5W _ _ _ t => t.wellFormedTransfer
  | .log5F _ _ _ t => t.wellFormedTransfer
  | .log6W _ _ _ t => t.wellFormedTransfer
  | .log6F _ _ _ t => t.wellFormedTransfer
  | .log7W _ _ _ t => t.wellFormedTransfer
  | .log7F _ _ _ t => t.wellFormedTransfer
  | .log8W _ _ _ t => t.wellFormedTransfer
  | .log8F _ _ _ t => t.wellFormedTransfer
  | .log9W _ _ _ t => t.wellFormedTransfer
  | .log9F _ _ _ t => t.wellFormedTransfer
  | .log10W _ _ _ t => t.wellFormedTransfer
  | .log10F _ _ _ t => t.wellFormedTransfer
  | .log11W _ _ _ t => t.wellFormedTransfer
  | .log11F _ _ _ t => t.wellFormedTransfer
  | .log12W _ _ _ t => t.wellFormedTransfer
  | .log12F _ _ _ t => t.wellFormedTransfer
  | .log13W _ _ _ t => t.wellFormedTransfer
  | .log13F _ _ _ t => t.wellFormedTransfer
  | .log14W _ _ _ t => t.wellFormedTransfer
  | .log14F _ _ _ t => t.wellFormedTransfer
  | .log15W _ _ _ t => t.wellFormedTransfer
  | .log15F _ _ _ t => t.wellFormedTransfer
  | .subW _ _ _ t => t.wellFormedTransfer
  | .subF _ _ _ t => t.wellFormedTransfer
  | .subcW _ _ _ t => t.wellFormedTransfer
  | .subcF _ _ _ t => t.wellFormedTransfer
  | .incW _ _ _ t => t.wellFormedTransfer
  | .incF _ _ _ t => t.wellFormedTransfer
  | .adc0W _ _ _ t => t.wellFormedTransfer
  | .adc0F _ _ _ t => t.wellFormedTransfer
  | .decW _ _ _ t => t.wellFormedTransfer
  | .decF _ _ _ t => t.wellFormedTransfer
  | .deccW _ _ _ t => t.wellFormedTransfer
  | .deccF _ _ _ t => t.wellFormedTransfer
  | .addW _ _ _ t => t.wellFormedTransfer
  | .addF _ _ _ t => t.wellFormedTransfer
  | .addcW _ _ _ t => t.wellFormedTransfer
  | .addcF _ _ _ t => t.wellFormedTransfer
  | .mulfW _ _ _ t => t.wellFormedTransfer
  | .mulfF _ _ _ t => t.wellFormedTransfer
  | .mulsW _ _ _ t => t.wellFormedTransfer
  | .mulsF _ _ _ t => t.wellFormedTransfer
  | .negW _ _ _ t => t.wellFormedTransfer
  | .negF _ _ _ t => t.wellFormedTransfer
  | .reservedAm011 _ _ _ _ => true
  | .ldR _ _ _ _ => true
  | .stR _ _ _ _ => true
  | .reservedAmc11 _ _ _ _ _ => true
  | .ldI _ _ _ _ _ => true
  | .stI _ _ _ _ _ => true
  | .mov _ _ _ => true
  | .pswrSet _ _ => true
  | .pswrRst _ _ => true
  | .ldc p rd k => (Instr.ldc p rd k).wellFormedTransfer
  | .reservedRmc11 _ _ _ _ => true
  | .armI _ _ _ _ _ => true
  | .nopI _ _ => true
  | .jmpI _ _ _ _ _ => true
  | .callI _ _ _ _ _ => true
  | .reserved100 _ _ _ _ => true
  | .reservedRm11 _ _ _ => true
  | .armR _ _ _ _ => true
  | .nopR _ => true
  | .reserved101 p bits => (Instr.reserved101 p bits).wellFormedTransfer
  | .jmpR _ _ _ _ => true
  | .callR _ _ _ _ => true
  | .ret _ _ => true
  | .iret _ _ => true
  | .reserved000 p bits => (Instr.reserved000 p bits).wellFormedTransfer
  | .udi _ _ => true

end Sys2Proof
end

