-- ==== Sys2Proof/Decode.lean ====
section
/-!
DEFINITION. The decoder and the encoder (30_encoding.md R90 to R115, R130, R137). Every word has a transfer row and an OP
row, so decoding an instruction word is total; the reserved spaces are rows of their own, rejected by name. The one thing
a fetch word can hold that is no instruction is a long format in its high half (R121).
-/

namespace Sys2Proof

/-- A 3-bit register field (R114). -/
def regField (b : BitVec 3) : RegIx := b.toFin

/-- The 2-bit ARj field (R103). -/
def arjField (b : BitVec 2) : Fin 4 := b.toFin

/-- R91: bits 30:28 = 100 or 110 tell a long format. -/
def isLongWord (w : Word) : Bool := w.extractLsb' 28 3 == 0b100#3 || w.extractLsb' 28 3 == 0b110#3

/-- Table 5-7 (R211). -/
def decodeCond (b : BitVec 4) : Cond :=
  match b with
  | 0b0000#4 => .cc
  | 0b0001#4 => .vc
  | 0b0010#4 => .gz
  | 0b0011#4 => .pl
  | 0b0100#4 => .gt
  | 0b0101#4 => .ge
  | 0b0110#4 => .ne
  | 0b0111#4 => .al
  | 0b1000#4 => .cs
  | 0b1001#4 => .vs
  | 0b1010#4 => .lez
  | 0b1011#4 => .mi
  | 0b1100#4 => .le
  | 0b1101#4 => .lt
  | 0b1110#4 => .eq
  | _ => .nv

/-- Table 5-5 (R213). -/
def decodePm (b : BitVec 2) : PM :=
  match b with
  | 0b00#2 => .ar
  | 0b01#2 => .arAddGr
  | 0b10#2 => .gr
  | _ => .pcAddGr

/-- Table 5-6 (R214). -/
def decodePmc (b : BitVec 2) : PMC :=
  match b with
  | 0b00#2 => .ar
  | 0b01#2 => .arAddK
  | 0b10#2 => .k
  | _ => .pcAddK

/-- LS.R (R94), with AM by Table 5-1 (R141). -/
def decodeLsR (w : Word) : Instr :=
  let p := w.getLsbD 31
  let store := w.getLsbD 25
  let i := regField (w.extractLsb' 22 3)
  let r := w.extractLsb' 16 6
  let form (am : AM) : Instr := if store then .stR p am i r else .ldR p am i r
  match w.extractLsb' 26 3 with
  | 0b000#3 => form .gr
  | 0b001#3 => form .preAddGr
  | 0b010#3 => form .loadGr
  | 0b011#3 => .reservedAm011 p store i r
  | 0b100#3 => form .ar
  | 0b101#3 => form .postAddGr
  | 0b110#3 => form .preDec
  | _ => form .postInc

/-- LS.I (R95), with AMC by Table 5-2 (R143). -/
def decodeLsI (w k : Word) : Instr :=
  let p := w.getLsbD 31
  let store := w.getLsbD 25
  let i := regField (w.extractLsb' 22 3)
  let r := w.extractLsb' 16 6
  let form (amc : AMC) : Instr := if store then .stI p amc i r k else .ldI p amc i r k
  match w.extractLsb' 26 2 with
  | 0b00#2 => form .absolute
  | 0b01#2 => form .preAddK
  | 0b10#2 => form .loadK
  | _ => .reservedAmc11 p store i r k

/-- Bits 30:28 = 000: J.R (R104), RET (R106), or no format (R130). -/
def decodeControl (w : Word) : Instr :=
  let p := w.getLsbD 31
  let cond := decodeCond (w.extractLsb' 16 4)
  let i := regField (w.extractLsb' 22 3)
  let pm := decodePm (w.extractLsb' 26 2)
  if w.extractLsb' 20 2 = 0b10#2 then
    if w.getLsbD 25 then .callR p pm i cond else .jmpR p pm i cond
  else if w.extractLsb' 20 7 = 0b0111111#7 then
    if w.getLsbD 27 then .iret p cond else .ret p cond
  else .reserved000 p (w.extractLsb' 16 12)

/-- ARM.I and NOP.I (R100, R102), with RMC by Table 5-4 (R192). -/
def decodeArmI (w k : Word) : Instr :=
  let p := w.getLsbD 31
  let i := regField (w.extractLsb' 22 3)
  let j := arjField (w.extractLsb' 16 2)
  if w.getLsbD 25 then
    match w.extractLsb' 26 2 with
    | 0b00#2 => .armI p .ar i j k
    | 0b01#2 => .armI p .arAddK i j k
    | 0b10#2 => .armI p .k i j k
    | _ => .reservedRmc11 p i j k
  else .nopI p k

/-- ARM.R and NOP.R (R99, R101), with RM by Table 5-3 (R191). -/
def decodeArmR (w : Word) : Instr :=
  let p := w.getLsbD 31
  let i := regField (w.extractLsb' 22 3)
  let j := arjField (w.extractLsb' 16 2)
  if w.getLsbD 25 then
    match w.extractLsb' 26 2 with
    | 0b00#2 => .armR p .ar i j
    | 0b01#2 => .armR p .arAddGr i j
    | 0b10#2 => .armR p .gr i j
    | _ => .reservedRm11 p i j
  else .nopR p

/-- Bits 30:28 = 100, by bits 21:20: LDC with PSWRSET and PSWRRST (R97, R98), ARM.I and NOP.I, J.I (R105), or no format. -/
def decode100 (w k : Word) : Instr :=
  let p := w.getLsbD 31
  match w.extractLsb' 20 2 with
  | 0b00#2 =>
    let rd := w.extractLsb' 22 6
    if rd = 0b111101#6 then .pswrSet p k
    else if rd = 0b011101#6 then .pswrRst p k
    else .ldc p rd k
  | 0b01#2 => decodeArmI w k
  | 0b10#2 =>
    let cond := decodeCond (w.extractLsb' 16 4)
    let i := regField (w.extractLsb' 22 3)
    let pmc := decodePmc (w.extractLsb' 26 2)
    if w.getLsbD 25 then .callI p pmc i cond k else .jmpI p pmc i cond k
  | _ => .reserved100 p (w.extractLsb' 22 6) (w.extractLsb' 16 4) k

/-- Bits 30:28 = 101: ARM.R and NOP.R, or no format. -/
def decode101 (w : Word) : Instr :=
  if w.extractLsb' 20 2 = 0b01#2 then decodeArmR w
  else .reserved101 (w.getLsbD 31) (w.extractLsb' 16 12)

/-- The transfer part of the instruction word `w` with constant `k`: the major map R93. -/
def decodeTransfer (w k : Word) : Instr :=
  match w.extractLsb' 28 3 with
  | 0b000#3 => decodeControl w
  | 0b001#3 => .udi (w.getLsbD 31) (w.extractLsb' 16 12)
  | 0b010#3 => decodeLsR w
  | 0b011#3 => decodeLsR w
  | 0b100#3 => decode100 w k
  | 0b101#3 => decode101 w
  | 0b110#3 => decodeLsI w k
  | _ => .mov (w.getLsbD 31) (w.extractLsb' 22 6) (w.extractLsb' 16 6)

/-- R248: `0000 0000 00 sss sss` with equal register fields. -/
def isNullOp (w : Word) : Bool :=
  w.extractLsb' 6 10 == 0#10 && w.extractLsb' 3 3 == w.extractLsb' 0 3

/-- OP for shift operations (R108). -/
def decodeShift (w : Word) (t : Instr) : Instr :=
  let count := w.extractLsb' 6 6
  let src := regField (w.extractLsb' 3 3)
  let dst := regField (w.extractLsb' 0 3)
  match w.extractLsb' 12 2 with
  | 0b00#2 => .rot count src dst t
  | 0b01#2 => .lsh count src dst t
  | 0b10#2 => .ash count src dst t
  | _ => .lshc count src dst t

/-- OP for logical operations (R109); `flags` tells W = 10 from W = 01. -/
def decodeLogical (lop : BitVec 4) (flags : Bool) (s2 s1 d : RegIx) (t : Instr) : Instr :=
  match lop with
  | 0b0000#4 => if flags then .log0F s2 s1 d t else .log0W s2 s1 d t
  | 0b0001#4 => if flags then .log1F s2 s1 d t else .log1W s2 s1 d t
  | 0b0010#4 => if flags then .log2F s2 s1 d t else .log2W s2 s1 d t
  | 0b0011#4 => if flags then .log3F s2 s1 d t else .log3W s2 s1 d t
  | 0b0100#4 => if flags then .log4F s2 s1 d t else .log4W s2 s1 d t
  | 0b0101#4 => if flags then .log5F s2 s1 d t else .log5W s2 s1 d t
  | 0b0110#4 => if flags then .log6F s2 s1 d t else .log6W s2 s1 d t
  | 0b0111#4 => if flags then .log7F s2 s1 d t else .log7W s2 s1 d t
  | 0b1000#4 => if flags then .log8F s2 s1 d t else .log8W s2 s1 d t
  | 0b1001#4 => if flags then .log9F s2 s1 d t else .log9W s2 s1 d t
  | 0b1010#4 => if flags then .log10F s2 s1 d t else .log10W s2 s1 d t
  | 0b1011#4 => if flags then .log11F s2 s1 d t else .log11W s2 s1 d t
  | 0b1100#4 => if flags then .log12F s2 s1 d t else .log12W s2 s1 d t
  | 0b1101#4 => if flags then .log13F s2 s1 d t else .log13W s2 s1 d t
  | 0b1110#4 => if flags then .log14F s2 s1 d t else .log14W s2 s1 d t
  | _ => if flags then .log15F s2 s1 d t else .log15W s2 s1 d t

/-- OP for arithmetical operations (R110) with a code that is not reserved: the table of R260. -/
def decodeArith (aop : BitVec 4) (flags : Bool) (s2 s1 d : RegIx) (t : Instr) : Instr :=
  match aop with
  | 0b0000#4 => if flags then .subF s2 s1 d t else .subW s2 s1 d t
  | 0b0001#4 => if flags then .subcF s2 s1 d t else .subcW s2 s1 d t
  | 0b0010#4 => if flags then .incF s2 s1 d t else .incW s2 s1 d t
  | 0b0011#4 => if flags then .adc0F s2 s1 d t else .adc0W s2 s1 d t
  | 0b0100#4 => if flags then .decF s2 s1 d t else .decW s2 s1 d t
  | 0b0101#4 => if flags then .deccF s2 s1 d t else .deccW s2 s1 d t
  | 0b0110#4 => if flags then .addF s2 s1 d t else .addW s2 s1 d t
  | 0b0111#4 => if flags then .addcF s2 s1 d t else .addcW s2 s1 d t
  | 0b1000#4 => if flags then .mulfF s2 s1 d t else .mulfW s2 s1 d t
  | 0b1001#4 => if flags then .mulsF s2 s1 d t else .mulsW s2 s1 d t
  | _ => if flags then .negF s2 s1 d t else .negW s2 s1 d t

/-- The OP part (R111) over the transfer part `t` of the same word. The reserved AOP codes come before W = 11 (R137, R272). -/
def decodeOp (w : Word) (t : Instr) : Instr :=
  let wf := w.extractLsb' 14 2
  let code := w.extractLsb' 9 4
  let s2 := regField (w.extractLsb' 6 3)
  let s1 := regField (w.extractLsb' 3 3)
  let d := regField (w.extractLsb' 0 3)
  let arith := w.getLsbD 13
  if wf = 0b00#2 then decodeShift w t
  else if arith && (w.extractLsb' 10 3 == 0b101#3) then .reservedAop101x wf (w.getLsbD 9) s2 s1 d t
  else if arith && (w.extractLsb' 11 2 == 0b11#2) && w.getLsbD 9 then .reservedAop11x1 wf (w.getLsbD 10) s2 s1 d t
  else if arith && (w.extractLsb' 10 3 == 0b111#3) then .reservedAop111x wf s2 s1 d t
  else if wf = 0b11#2 then .w11 arith code s2 s1 d t
  else if arith then decodeArith code (w.getLsbD 15) s2 s1 d t
  else decodeLogical code (w.getLsbD 15) s2 s1 d t

/-- The instruction that the word `w`, with the constant `k` if it is long, stands for (R125 point 2). -/
def decode (w k : Word) : Instr :=
  if isNullOp w then decodeTransfer w k else decodeOp w (decodeTransfer w k)

/-- The instruction word a step executes from a fetch word: the low half first, then the high half (R120, R126). -/
def fetchedWord (f : DWord) (slot : Bool) : Word :=
  if slot then f.extractLsb' 32 32 else f.extractLsb' 0 32

/-- The instruction a step executes from a fetch word; none for a long format in the high half (R121). The constant of a
long format is the high half of the fetch word (R113). -/
def decodeFetch (f : DWord) (slot : Bool) : Option Instr :=
  if slot && isLongWord (fetchedWord f slot) then none
  else some (decode (fetchedWord f slot) (f.extractLsb' 32 32))

/-- The fetch word that the instruction with bits `w` fills. A row that gives no more than 16 bits is a row of the OP slot
(R137 matches it against bits 15:0): its transfer part is omitted, and an omitted transfer is NOP.R (R135). Log 2. -/
def tableFetchWord (nbits w : Nat) : DWord :=
  if nbits ≤ 16 then 0x50100000#64 ||| BitVec.ofNat 64 (w % 2 ^ 16) else BitVec.ofNat 64 w

/-- The instruction the decoder reads from an instruction whose bits are `w`. -/
def decodeTableWord (nbits w : Nat) : Option Instr := decodeFetch (tableFetchWord nbits w) false

/-! The encoder, from the same formats. Don't-care bits are 0 (R115). -/

/-- One bit. -/
def bitField (b : Bool) : BitVec 1 := BitVec.ofBool b

/-- A register index as a 3-bit field. -/
def regBits (i : RegIx) : BitVec 3 := BitVec.ofNat 3 i.val

/-- The ARj field. -/
def arjBits (j : Fin 4) : BitVec 2 := BitVec.ofNat 2 j.val

/-- Table 5-1 (R141). -/
def encodeAm : AM → BitVec 3
  | .gr => 0b000#3
  | .preAddGr => 0b001#3
  | .loadGr => 0b010#3
  | .ar => 0b100#3
  | .postAddGr => 0b101#3
  | .preDec => 0b110#3
  | .postInc => 0b111#3

/-- Table 5-2 (R143). -/
def encodeAmc : AMC → BitVec 2
  | .absolute => 0b00#2
  | .preAddK => 0b01#2
  | .loadK => 0b10#2

/-- Table 5-3 (R191). -/
def encodeRm : RM → BitVec 2
  | .ar => 0b00#2
  | .arAddGr => 0b01#2
  | .gr => 0b10#2

/-- Table 5-4 (R192). -/
def encodeRmc : RMC → BitVec 2
  | .ar => 0b00#2
  | .arAddK => 0b01#2
  | .k => 0b10#2

/-- Table 5-5 (R213). -/
def encodePm : PM → BitVec 2
  | .ar => 0b00#2
  | .arAddGr => 0b01#2
  | .gr => 0b10#2
  | .pcAddGr => 0b11#2

/-- Table 5-6 (R214). -/
def encodePmc : PMC → BitVec 2
  | .ar => 0b00#2
  | .arAddK => 0b01#2
  | .k => 0b10#2
  | .pcAddK => 0b11#2

/-- Table 5-7 (R211). -/
def encodeCond : Cond → BitVec 4
  | .cc => 0b0000#4
  | .vc => 0b0001#4
  | .gz => 0b0010#4
  | .pl => 0b0011#4
  | .gt => 0b0100#4
  | .ge => 0b0101#4
  | .ne => 0b0110#4
  | .al => 0b0111#4
  | .cs => 0b1000#4
  | .vs => 0b1001#4
  | .lez => 0b1010#4
  | .mi => 0b1011#4
  | .le => 0b1100#4
  | .lt => 0b1101#4
  | .eq => 0b1110#4
  | .nv => 0b1111#4

/-- LS.R (R94). -/
def encodeLsR (p : Bool) (am : BitVec 3) (store : Bool) (i : RegIx) (r : RegCode) : BitVec 16 :=
  bitField p ++ 0b01#2 ++ am ++ bitField store ++ regBits i ++ r

/-- LS.I (R95). -/
def encodeLsI (p : Bool) (amc : BitVec 2) (store : Bool) (i : RegIx) (r : RegCode) : BitVec 16 :=
  bitField p ++ 0b110#3 ++ amc ++ bitField store ++ regBits i ++ r

/-- ARM.R and ARM.I (R99, R100), by bits 30:28. -/
def encodeArm (p : Bool) (major : BitVec 3) (rm : BitVec 2) (i : RegIx) (j : Fin 4) : BitVec 16 :=
  bitField p ++ major ++ rm ++ 0b1#1 ++ regBits i ++ 0b01#2 ++ 0b00#2 ++ arjBits j

/-- J.R and J.I (R104, R105), by bits 30:28. -/
def encodeJump (p : Bool) (major : BitVec 3) (pm : BitVec 2) (call : Bool) (i : RegIx) (cond : Cond) : BitVec 16 :=
  bitField p ++ major ++ pm ++ bitField call ++ regBits i ++ 0b10#2 ++ encodeCond cond

/-- RET (R106). -/
def encodeRet (p interrupt : Bool) (cond : Cond) : BitVec 16 :=
  bitField p ++ 0b000#3 ++ bitField interrupt ++ 0b0111111#7 ++ encodeCond cond

/-- Bits 31:16 of a transfer row; for an OP row, those of the transfer part it carries. -/
def encodeTransfer : Instr → BitVec 16
  | .reservedAm011 p store i r => encodeLsR p 0b011#3 store i r
  | .ldR p am i r => encodeLsR p (encodeAm am) false i r
  | .stR p am i r => encodeLsR p (encodeAm am) true i r
  | .reservedAmc11 p store i r _ => encodeLsI p 0b11#2 store i r
  | .ldI p amc i r _ => encodeLsI p (encodeAmc amc) false i r
  | .stI p amc i r _ => encodeLsI p (encodeAmc amc) true i r
  | .mov p rd rs => bitField p ++ 0b111#3 ++ rd ++ rs
  | .pswrSet p _ => bitField p ++ 0b100#3 ++ 0b111101#6 ++ 0b00#2 ++ 0b0000#4
  | .pswrRst p _ => bitField p ++ 0b100#3 ++ 0b011101#6 ++ 0b00#2 ++ 0b0000#4
  | .ldc p rd _ => bitField p ++ 0b100#3 ++ rd ++ 0b00#2 ++ 0b0000#4
  | .reservedRmc11 p i j _ => encodeArm p 0b100#3 0b11#2 i j
  | .armI p rmc i j _ => encodeArm p 0b100#3 (encodeRmc rmc) i j
  | .nopI p _ => bitField p ++ 0b100#3 ++ 0b000000#6 ++ 0b01#2 ++ 0b0000#4
  | .jmpI p pmc i cond _ => encodeJump p 0b100#3 (encodePmc pmc) false i cond
  | .callI p pmc i cond _ => encodeJump p 0b100#3 (encodePmc pmc) true i cond
  | .reserved100 p a b _ => bitField p ++ 0b100#3 ++ a ++ 0b11#2 ++ b
  | .reservedRm11 p i j => encodeArm p 0b101#3 0b11#2 i j
  | .armR p rm i j => encodeArm p 0b101#3 (encodeRm rm) i j
  | .nopR p => bitField p ++ 0b101#3 ++ 0b000000#6 ++ 0b01#2 ++ 0b0000#4
  | .reserved101 p bits => bitField p ++ 0b101#3 ++ bits
  | .jmpR p pm i cond => encodeJump p 0b000#3 (encodePm pm) false i cond
  | .callR p pm i cond => encodeJump p 0b000#3 (encodePm pm) true i cond
  | .ret p cond => encodeRet p false cond
  | .iret p cond => encodeRet p true cond
  | .reserved000 p bits => bitField p ++ 0b000#3 ++ bits
  | .udi p bits => bitField p ++ 0b001#3 ++ bits
  | .rot _ _ _ t => encodeTransfer t
  | .lsh _ _ _ t => encodeTransfer t
  | .ash _ _ _ t => encodeTransfer t
  | .lshc _ _ _ t => encodeTransfer t
  | .reservedAop101x _ _ _ _ _ t => encodeTransfer t
  | .reservedAop11x1 _ _ _ _ _ t => encodeTransfer t
  | .reservedAop111x _ _ _ _ t => encodeTransfer t
  | .w11 _ _ _ _ _ t => encodeTransfer t
  | .log0W _ _ _ t => encodeTransfer t
  | .log0F _ _ _ t => encodeTransfer t
  | .log1W _ _ _ t => encodeTransfer t
  | .log1F _ _ _ t => encodeTransfer t
  | .log2W _ _ _ t => encodeTransfer t
  | .log2F _ _ _ t => encodeTransfer t
  | .log3W _ _ _ t => encodeTransfer t
  | .log3F _ _ _ t => encodeTransfer t
  | .log4W _ _ _ t => encodeTransfer t
  | .log4F _ _ _ t => encodeTransfer t
  | .log5W _ _ _ t => encodeTransfer t
  | .log5F _ _ _ t => encodeTransfer t
  | .log6W _ _ _ t => encodeTransfer t
  | .log6F _ _ _ t => encodeTransfer t
  | .log7W _ _ _ t => encodeTransfer t
  | .log7F _ _ _ t => encodeTransfer t
  | .log8W _ _ _ t => encodeTransfer t
  | .log8F _ _ _ t => encodeTransfer t
  | .log9W _ _ _ t => encodeTransfer t
  | .log9F _ _ _ t => encodeTransfer t
  | .log10W _ _ _ t => encodeTransfer t
  | .log10F _ _ _ t => encodeTransfer t
  | .log11W _ _ _ t => encodeTransfer t
  | .log11F _ _ _ t => encodeTransfer t
  | .log12W _ _ _ t => encodeTransfer t
  | .log12F _ _ _ t => encodeTransfer t
  | .log13W _ _ _ t => encodeTransfer t
  | .log13F _ _ _ t => encodeTransfer t
  | .log14W _ _ _ t => encodeTransfer t
  | .log14F _ _ _ t => encodeTransfer t
  | .log15W _ _ _ t => encodeTransfer t
  | .log15F _ _ _ t => encodeTransfer t
  | .subW _ _ _ t => encodeTransfer t
  | .subF _ _ _ t => encodeTransfer t
  | .subcW _ _ _ t => encodeTransfer t
  | .subcF _ _ _ t => encodeTransfer t
  | .incW _ _ _ t => encodeTransfer t
  | .incF _ _ _ t => encodeTransfer t
  | .adc0W _ _ _ t => encodeTransfer t
  | .adc0F _ _ _ t => encodeTransfer t
  | .decW _ _ _ t => encodeTransfer t
  | .decF _ _ _ t => encodeTransfer t
  | .deccW _ _ _ t => encodeTransfer t
  | .deccF _ _ _ t => encodeTransfer t
  | .addW _ _ _ t => encodeTransfer t
  | .addF _ _ _ t => encodeTransfer t
  | .addcW _ _ _ t => encodeTransfer t
  | .addcF _ _ _ t => encodeTransfer t
  | .mulfW _ _ _ t => encodeTransfer t
  | .mulfF _ _ _ t => encodeTransfer t
  | .mulsW _ _ _ t => encodeTransfer t
  | .mulsF _ _ _ t => encodeTransfer t
  | .negW _ _ _ t => encodeTransfer t
  | .negF _ _ _ t => encodeTransfer t

/-- OP for shift operations (R108). -/
def encodeShift (st : BitVec 2) (count : BitVec 6) (src dst : RegIx) : BitVec 16 :=
  0b00#2 ++ st ++ count ++ regBits src ++ regBits dst

/-- OP for logical (R109) and arithmetical (R110) operations. -/
def encodeAlu (w : BitVec 2) (arith : Bool) (code : BitVec 4) (s2 s1 d : RegIx) : BitVec 16 :=
  w ++ bitField arith ++ code ++ regBits s2 ++ regBits s1 ++ regBits d

/-- Bits 15:0; the null OP 0x0000 for a bare transfer row (R248). -/
def encodeOp : Instr → BitVec 16
  | .rot count src dst _ => encodeShift 0b00#2 count src dst
  | .lsh count src dst _ => encodeShift 0b01#2 count src dst
  | .ash count src dst _ => encodeShift 0b10#2 count src dst
  | .lshc count src dst _ => encodeShift 0b11#2 count src dst
  | .reservedAop101x w x s2 s1 d _ => encodeAlu w true (0b101#3 ++ bitField x) s2 s1 d
  | .reservedAop11x1 w x s2 s1 d _ => encodeAlu w true (0b11#2 ++ bitField x ++ 0b1#1) s2 s1 d
  | .reservedAop111x w s2 s1 d _ => encodeAlu w true 0b1110#4 s2 s1 d
  | .w11 arith code s2 s1 d _ => encodeAlu 0b11#2 arith code s2 s1 d
  | .log0W s2 s1 d _ => encodeAlu 0b01#2 false 0b0000#4 s2 s1 d
  | .log0F s2 s1 d _ => encodeAlu 0b10#2 false 0b0000#4 s2 s1 d
  | .log1W s2 s1 d _ => encodeAlu 0b01#2 false 0b0001#4 s2 s1 d
  | .log1F s2 s1 d _ => encodeAlu 0b10#2 false 0b0001#4 s2 s1 d
  | .log2W s2 s1 d _ => encodeAlu 0b01#2 false 0b0010#4 s2 s1 d
  | .log2F s2 s1 d _ => encodeAlu 0b10#2 false 0b0010#4 s2 s1 d
  | .log3W s2 s1 d _ => encodeAlu 0b01#2 false 0b0011#4 s2 s1 d
  | .log3F s2 s1 d _ => encodeAlu 0b10#2 false 0b0011#4 s2 s1 d
  | .log4W s2 s1 d _ => encodeAlu 0b01#2 false 0b0100#4 s2 s1 d
  | .log4F s2 s1 d _ => encodeAlu 0b10#2 false 0b0100#4 s2 s1 d
  | .log5W s2 s1 d _ => encodeAlu 0b01#2 false 0b0101#4 s2 s1 d
  | .log5F s2 s1 d _ => encodeAlu 0b10#2 false 0b0101#4 s2 s1 d
  | .log6W s2 s1 d _ => encodeAlu 0b01#2 false 0b0110#4 s2 s1 d
  | .log6F s2 s1 d _ => encodeAlu 0b10#2 false 0b0110#4 s2 s1 d
  | .log7W s2 s1 d _ => encodeAlu 0b01#2 false 0b0111#4 s2 s1 d
  | .log7F s2 s1 d _ => encodeAlu 0b10#2 false 0b0111#4 s2 s1 d
  | .log8W s2 s1 d _ => encodeAlu 0b01#2 false 0b1000#4 s2 s1 d
  | .log8F s2 s1 d _ => encodeAlu 0b10#2 false 0b1000#4 s2 s1 d
  | .log9W s2 s1 d _ => encodeAlu 0b01#2 false 0b1001#4 s2 s1 d
  | .log9F s2 s1 d _ => encodeAlu 0b10#2 false 0b1001#4 s2 s1 d
  | .log10W s2 s1 d _ => encodeAlu 0b01#2 false 0b1010#4 s2 s1 d
  | .log10F s2 s1 d _ => encodeAlu 0b10#2 false 0b1010#4 s2 s1 d
  | .log11W s2 s1 d _ => encodeAlu 0b01#2 false 0b1011#4 s2 s1 d
  | .log11F s2 s1 d _ => encodeAlu 0b10#2 false 0b1011#4 s2 s1 d
  | .log12W s2 s1 d _ => encodeAlu 0b01#2 false 0b1100#4 s2 s1 d
  | .log12F s2 s1 d _ => encodeAlu 0b10#2 false 0b1100#4 s2 s1 d
  | .log13W s2 s1 d _ => encodeAlu 0b01#2 false 0b1101#4 s2 s1 d
  | .log13F s2 s1 d _ => encodeAlu 0b10#2 false 0b1101#4 s2 s1 d
  | .log14W s2 s1 d _ => encodeAlu 0b01#2 false 0b1110#4 s2 s1 d
  | .log14F s2 s1 d _ => encodeAlu 0b10#2 false 0b1110#4 s2 s1 d
  | .log15W s2 s1 d _ => encodeAlu 0b01#2 false 0b1111#4 s2 s1 d
  | .log15F s2 s1 d _ => encodeAlu 0b10#2 false 0b1111#4 s2 s1 d
  | .subW s2 s1 d _ => encodeAlu 0b01#2 true 0b0000#4 s2 s1 d
  | .subF s2 s1 d _ => encodeAlu 0b10#2 true 0b0000#4 s2 s1 d
  | .subcW s2 s1 d _ => encodeAlu 0b01#2 true 0b0001#4 s2 s1 d
  | .subcF s2 s1 d _ => encodeAlu 0b10#2 true 0b0001#4 s2 s1 d
  | .incW s2 s1 d _ => encodeAlu 0b01#2 true 0b0010#4 s2 s1 d
  | .incF s2 s1 d _ => encodeAlu 0b10#2 true 0b0010#4 s2 s1 d
  | .adc0W s2 s1 d _ => encodeAlu 0b01#2 true 0b0011#4 s2 s1 d
  | .adc0F s2 s1 d _ => encodeAlu 0b10#2 true 0b0011#4 s2 s1 d
  | .decW s2 s1 d _ => encodeAlu 0b01#2 true 0b0100#4 s2 s1 d
  | .decF s2 s1 d _ => encodeAlu 0b10#2 true 0b0100#4 s2 s1 d
  | .deccW s2 s1 d _ => encodeAlu 0b01#2 true 0b0101#4 s2 s1 d
  | .deccF s2 s1 d _ => encodeAlu 0b10#2 true 0b0101#4 s2 s1 d
  | .addW s2 s1 d _ => encodeAlu 0b01#2 true 0b0110#4 s2 s1 d
  | .addF s2 s1 d _ => encodeAlu 0b10#2 true 0b0110#4 s2 s1 d
  | .addcW s2 s1 d _ => encodeAlu 0b01#2 true 0b0111#4 s2 s1 d
  | .addcF s2 s1 d _ => encodeAlu 0b10#2 true 0b0111#4 s2 s1 d
  | .mulfW s2 s1 d _ => encodeAlu 0b01#2 true 0b1000#4 s2 s1 d
  | .mulfF s2 s1 d _ => encodeAlu 0b10#2 true 0b1000#4 s2 s1 d
  | .mulsW s2 s1 d _ => encodeAlu 0b01#2 true 0b1001#4 s2 s1 d
  | .mulsF s2 s1 d _ => encodeAlu 0b10#2 true 0b1001#4 s2 s1 d
  | .negW s2 s1 d _ => encodeAlu 0b01#2 true 0b1100#4 s2 s1 d
  | .negF s2 s1 d _ => encodeAlu 0b10#2 true 0b1100#4 s2 s1 d
  | .reservedAm011 _ _ _ _ => 0x0000#16
  | .ldR _ _ _ _ => 0x0000#16
  | .stR _ _ _ _ => 0x0000#16
  | .reservedAmc11 _ _ _ _ _ => 0x0000#16
  | .ldI _ _ _ _ _ => 0x0000#16
  | .stI _ _ _ _ _ => 0x0000#16
  | .mov _ _ _ => 0x0000#16
  | .pswrSet _ _ => 0x0000#16
  | .pswrRst _ _ => 0x0000#16
  | .ldc _ _ _ => 0x0000#16
  | .reservedRmc11 _ _ _ _ => 0x0000#16
  | .armI _ _ _ _ _ => 0x0000#16
  | .nopI _ _ => 0x0000#16
  | .jmpI _ _ _ _ _ => 0x0000#16
  | .callI _ _ _ _ _ => 0x0000#16
  | .reserved100 _ _ _ _ => 0x0000#16
  | .reservedRm11 _ _ _ => 0x0000#16
  | .armR _ _ _ _ => 0x0000#16
  | .nopR _ => 0x0000#16
  | .reserved101 _ _ => 0x0000#16
  | .jmpR _ _ _ _ => 0x0000#16
  | .callR _ _ _ _ => 0x0000#16
  | .ret _ _ => 0x0000#16
  | .iret _ _ => 0x0000#16
  | .reserved000 _ _ => 0x0000#16
  | .udi _ _ => 0x0000#16

/-- The constant of a long instruction (R113). -/
def constantOf : Instr → Option Word
  | .reservedAm011 _ _ _ _ => none
  | .ldR _ _ _ _ => none
  | .stR _ _ _ _ => none
  | .reservedAmc11 _ _ _ _ k => some k
  | .ldI _ _ _ _ k => some k
  | .stI _ _ _ _ k => some k
  | .mov _ _ _ => none
  | .pswrSet _ k => some k
  | .pswrRst _ k => some k
  | .ldc _ _ k => some k
  | .reservedRmc11 _ _ _ k => some k
  | .armI _ _ _ _ k => some k
  | .nopI _ k => some k
  | .jmpI _ _ _ _ k => some k
  | .callI _ _ _ _ k => some k
  | .reserved100 _ _ _ k => some k
  | .reservedRm11 _ _ _ => none
  | .armR _ _ _ _ => none
  | .nopR _ => none
  | .reserved101 _ _ => none
  | .jmpR _ _ _ _ => none
  | .callR _ _ _ _ => none
  | .ret _ _ => none
  | .iret _ _ => none
  | .reserved000 _ _ => none
  | .udi _ _ => none
  | .rot _ _ _ t => constantOf t
  | .lsh _ _ _ t => constantOf t
  | .ash _ _ _ t => constantOf t
  | .lshc _ _ _ t => constantOf t
  | .reservedAop101x _ _ _ _ _ t => constantOf t
  | .reservedAop11x1 _ _ _ _ _ t => constantOf t
  | .reservedAop111x _ _ _ _ t => constantOf t
  | .w11 _ _ _ _ _ t => constantOf t
  | .log0W _ _ _ t => constantOf t
  | .log0F _ _ _ t => constantOf t
  | .log1W _ _ _ t => constantOf t
  | .log1F _ _ _ t => constantOf t
  | .log2W _ _ _ t => constantOf t
  | .log2F _ _ _ t => constantOf t
  | .log3W _ _ _ t => constantOf t
  | .log3F _ _ _ t => constantOf t
  | .log4W _ _ _ t => constantOf t
  | .log4F _ _ _ t => constantOf t
  | .log5W _ _ _ t => constantOf t
  | .log5F _ _ _ t => constantOf t
  | .log6W _ _ _ t => constantOf t
  | .log6F _ _ _ t => constantOf t
  | .log7W _ _ _ t => constantOf t
  | .log7F _ _ _ t => constantOf t
  | .log8W _ _ _ t => constantOf t
  | .log8F _ _ _ t => constantOf t
  | .log9W _ _ _ t => constantOf t
  | .log9F _ _ _ t => constantOf t
  | .log10W _ _ _ t => constantOf t
  | .log10F _ _ _ t => constantOf t
  | .log11W _ _ _ t => constantOf t
  | .log11F _ _ _ t => constantOf t
  | .log12W _ _ _ t => constantOf t
  | .log12F _ _ _ t => constantOf t
  | .log13W _ _ _ t => constantOf t
  | .log13F _ _ _ t => constantOf t
  | .log14W _ _ _ t => constantOf t
  | .log14F _ _ _ t => constantOf t
  | .log15W _ _ _ t => constantOf t
  | .log15F _ _ _ t => constantOf t
  | .subW _ _ _ t => constantOf t
  | .subF _ _ _ t => constantOf t
  | .subcW _ _ _ t => constantOf t
  | .subcF _ _ _ t => constantOf t
  | .incW _ _ _ t => constantOf t
  | .incF _ _ _ t => constantOf t
  | .adc0W _ _ _ t => constantOf t
  | .adc0F _ _ _ t => constantOf t
  | .decW _ _ _ t => constantOf t
  | .decF _ _ _ t => constantOf t
  | .deccW _ _ _ t => constantOf t
  | .deccF _ _ _ t => constantOf t
  | .addW _ _ _ t => constantOf t
  | .addF _ _ _ t => constantOf t
  | .addcW _ _ _ t => constantOf t
  | .addcF _ _ _ t => constantOf t
  | .mulfW _ _ _ t => constantOf t
  | .mulfF _ _ _ t => constantOf t
  | .mulsW _ _ _ t => constantOf t
  | .mulsF _ _ _ t => constantOf t
  | .negW _ _ _ t => constantOf t
  | .negF _ _ _ t => constantOf t

/-- The instruction word (R92). -/
def encodeWord (i : Instr) : Word := encodeTransfer i ++ encodeOp i

/-- The words of an instruction: the instruction word and, if it is long, its constant (R90). -/
def encode (i : Instr) : List Word := encodeWord i :: (constantOf i).toList

end Sys2Proof
end

