-- ==== Sys2Proof/Config.lean ====
section
/-!
DEFINITION. The named parameters of 00_scope.md R8. Those that can be written as data are the fields of `Params`, which State
carries, so that a statement about every state holds for every value of them; a function on a small or a Boolean range is
written as its table. The values at launch where the spec gives none are the constants of the namespace Config: they have no
body, so that no proof can see a value of them. The free values (`draw(n)`, R13) are constants of the same kind.
-/

namespace Sys2Proof

/-- PAIR_ORDER (R43): which register of a pair is bits 63:32. -/
inductive PairOrder where
  | firstHigh
  | firstLow
deriving DecidableEq, Repr

/-- STACK_DIR (R220). -/
inductive StackDir where
  | up
  | down
deriving DecidableEq, Repr

/-- SHIFT_FLAGS (R245). -/
inductive ShiftFlags where
  | none
  | store
deriving DecidableEq, Repr

/-- OVERFLOW_IRQ (R273). -/
inductive OverflowIrq where
  | onStoredV
  | onAnyV
  | never
deriving DecidableEq, Repr

/-- A predicate on PSWR as data: it holds when for some pair (mask, value) the masked PSWR is the value. Every Boolean function
of the 32 bits is such a list. -/
abbrev PswrPredicate := List (Word × Word)

/-- TRACE_MODE (R318): off, or a predicate on PSWR. -/
inductive TraceMode where
  | off
  | predicate (on : PswrPredicate)
deriving DecidableEq, Repr

/-- P_MODE (R122). -/
inductive PMode where
  | refuse
  | ignore
deriving DecidableEq, Repr

/-- W11_MODE (R244). -/
inductive W11Mode where
  | refuse
  | both
deriving DecidableEq, Repr

/-- DMA_MODEL (R336): no agent, so that what could start a transfer is refused, or an agent that acts through the inputs of the
state. Log 27. -/
inductive DmaModel where
  | none
  | agent
deriving DecidableEq, Repr

/-- A definite counter in the place of a timer (R330). At each step at which `runs` holds of PSWR the timer moves by `step`;
when it reaches `expiry` it requests its interrupt, and in the mode `periodical` it takes `reload` instead. In the other mode
it stays at `expiry` if `singleStops`. Log 26. -/
structure TimerCounter where
  runs : PswrPredicate
  step : Word
  expiry : Word
  periodical : PswrPredicate
  reload : Word
  singleStops : Bool
deriving DecidableEq, Repr

/-- TIMER_MODEL (R330): the timers belong to the environment, or each is a definite counter. -/
inductive TimerModel where
  | environment
  | counters (t0 t1 : TimerCounter)
deriving DecidableEq, Repr

/-- IRQ_ENTRY_PSWR (R310): the identity, or any function of PSWR and the interrupt, as the predicate that each bit of the new
PSWR is, for interrupt n at n - 1. Log 22. -/
inductive IrqEntryPswr where
  | identity
  | function (bits : Vector (Vector PswrPredicate 32) 10)
deriving DecidableEq, Repr

/-- CALL_RETURN_PC (R222): the first fetch word after the call's delay slots, or the call's own fetch word and `words`. Log 30. -/
inductive CallReturnPc where
  | afterDelaySlots
  | offset (words : Word)
deriving DecidableEq, Repr

/-- What MUL_STEP yields (R269): the result, which goes to GR[d] where W writes it (R243), new values of other general
registers, and the new flags. Log 14. -/
structure MulStep where
  res : Word
  others : Vector (Option Word) 8
  flags : Flags
deriving Inhabited, Repr

/-- What MEM_MAP says of a backed range (R71). -/
inductive MemKind where
  | plain
  | device
deriving DecidableEq, Repr

/-- One backed range of MEM_MAP: `size` words from word address `base` on (R71, R73). -/
structure Region where
  base : Nat
  size : Nat
  kind : MemKind
deriving DecidableEq, Repr

/-- PSWR_LAYOUT (R30): distinct bit positions for the four flags. The mask and timer bits are known to irq_enabled and to the
timers alone; every bit that is no flag is plain storage here. -/
structure PswrLayout where
  n : Fin 32
  z : Fin 32
  v : Fin 32
  c : Fin 32
  distinct : [n, z, v, c].Nodup
deriving DecidableEq, Repr

/-- INTR_LAYOUT (R33): distinct bit positions for the ten interrupt requests, and the positions given to DMA requests. -/
structure IntrLayout where
  pos : Vector (Fin 32) 10
  dmaMask : Word
  distinct : pos.toList.Nodup
deriving DecidableEq, Repr

/-- The parameters of R8 as data. `delayRestOfWord` and `delayWords` are the two parts of BRANCH_DELAY (R212). `pcReadAhead` is
PC_READ_OFFSET counted in fetch words, since the offset is an even number of words (R26, D28). `irqPredicates` is irq_enabled
(R303), for interrupt n at n - 1. `shiftTable` is SHIFT_DECODE (R246) by count field; its entry 0 is not used. `lopTable` is
LOP_MAP (R259): the bit 2 * s2 + s1 of the entry of a LOP code is the value of its Boolean function at (s2, s1). -/
structure Params where
  pairOrder : PairOrder
  stackDir : StackDir
  shiftFlags : ShiftFlags
  overflowIrq : OverflowIrq
  traceMode : TraceMode
  pMode : PMode
  w11Mode : W11Mode
  delayRestOfWord : Bool
  delayWords : Nat
  pcReadAhead : Word
  pswrLayout : PswrLayout
  intrLayout : IntrLayout
  irqPredicates : Vector PswrPredicate 10
  shiftTable : Vector (Dir × Fin 33) 64
  lopTable : Vector (BitVec 4) 16
  memMap : List Region
  dmaModel : DmaModel
  timerModel : TimerModel
  irqEntryPswr : IrqEntryPswr
  callReturnPc : CallReturnPc
deriving DecidableEq, Repr

namespace Config

/-- BRANCH_DELAY.rest_of_word of the hardware (R212): open. Log 16. -/
opaque restOfWord : Bool

/-- BRANCH_DELAY.words of the hardware (R212): open. Log 16. -/
opaque delayWords : Nat

/-- Half of PC_READ_OFFSET (R26): open. Log 17. -/
opaque pcReadAhead : Word

/-- PSWR_LAYOUT (R30): N, Z, V, C stand at the places this permutation gives to 0, 1, 2, 3. A permutation, because the
positions are distinct. Log 18. -/
opaque pswrPlaces : Equiv.Perm (Fin 32)

/-- INTR_LAYOUT (R33): the request of interrupt n stands at the place given to n - 1. Log 19. -/
opaque intrPlaces : Equiv.Perm (Fin 32)

/-- The positions INTR_LAYOUT gives to DMA requests (R33). Log 19. -/
opaque dmaRequestMask : Word

/-- irq_enabled (R303): open. Log 20. -/
opaque irqPredicates : Vector PswrPredicate 10

/-- How many more eligible points an enabled request waits before it is taken (R309), for the given draw. Log 21. -/
opaque irqLatency : Nat → Nat

/-- SHIFT_DECODE (R246): open. Log 12. -/
opaque shiftTable : Vector (Dir × Fin 33) 64

/-- LOP_MAP (R259): open. Log 13. -/
opaque lopTable : Vector (BitVec 4) 16

/-- MUL_STEP (R269), a function of (first?, W, s2, s1, GR[d], flags): open. Log 14. -/
opaque mulStep : Bool → BitVec 2 → Word → Word → Word → Flags → MulStep

/-- The value a read of a timer yields (R330), for the given draw and the last value written. Log 26. -/
opaque timerValue : Timer → Nat → Word → Word

/-- The bits of INTR that the layout assigns to nothing (R33), for the given draw. Log 19. -/
opaque intrUnassigned : Nat → Word

/-- C after an operation that leaves it open (R258, R245), for the given draw. Log 15. -/
opaque undefinedC : Nat → Bool

/-- V after an operation that leaves it open (R258, R245), for the given draw. Log 15. -/
opaque undefinedV : Nat → Bool

/-- The launch contents of memory (R45): what a word that nothing has listed reads as. Log 4. -/
opaque launchWord : Nat → Word

end Config

end Sys2Proof
end

