-- ==== Sys2Proof/Machine/Memory.lean ====
section
/-!
DEFINITION. Memory as a list of (word address, word) cells in one canonical form: addresses strictly rising, each below 2^32.
The cell is the word, because nothing smaller is addressable (R60, R67; log 3). An address that is not listed has no value of
its own: it still holds the word it was launched with, which the spec does not give (R45), and reads as
`Config.launchWord` (log 4). So no entry can equal what an unlisted address reads as in any way the machine can tell, and
equal memories are equal lists.
-/

namespace Sys2Proof.Machine

/-- Memory: cells of one word each, by word address. -/
abbrev Memory := List (Nat × Word)

/-- The listed word at an address. -/
def Memory.find (m : Memory) (a : Nat) : Option Word :=
  match m with
  | [] => none
  | (b, v) :: rest => if a = b then some v else Memory.find rest a

/-- What an unlisted address reads as: its launch contents, unspecified (R45). Log 4. -/
def unlistedWord (a : Nat) : Word := Config.launchWord a

/-- The word `M[a]` (R62). -/
def Memory.read (m : Memory) (a : Nat) : Word := (Memory.find m a).getD (unlistedWord a)

/-- `M[a] <- v`, in place or inserted in order. -/
def Memory.write (m : Memory) (a : Nat) (v : Word) : Memory :=
  match m with
  | [] => [(a, v)]
  | (b, u) :: rest =>
    if a < b then (a, v) :: (b, u) :: rest
    else if a = b then (a, v) :: rest
    else (b, u) :: Memory.write rest a v

/-- Addresses strictly rising, each an address of the machine. -/
def risingBelow (limit : Nat) (as : List Nat) : Bool :=
  match as with
  | [] => true
  | [a] => a < limit
  | a :: b :: rest => a < b && risingBelow limit (b :: rest)

/-- The canonical form of memory. -/
def Memory.wf (m : Memory) : Bool := risingBelow (2 ^ 32) (m.map Prod.fst)

/-- A set of addresses as a strictly rising list: `a` put in. -/
def insertAddr (a : Nat) (as : List Nat) : List Nat :=
  match as with
  | [] => [a]
  | b :: rest => if a < b then a :: b :: rest else if a = b then b :: rest else b :: insertAddr a rest

end Sys2Proof.Machine
end

