-- ==== Sys2Proof/Machine/Params.lean ====
section
/-!
DEFINITION. The parameters the machine is launched with: the spec's default where it names one, Config's unknown constant
where it names none. Three are the model's choice: P_MODE, W11_MODE and MEM_MAP (log 5, 10, 11).
-/

namespace Sys2Proof.Machine

/-- PSWR_LAYOUT at launch: open, so the places are Config's (R30). -/
def launchPswrLayout : PswrLayout where
  n := Config.pswrPlaces 0
  z := Config.pswrPlaces 1
  v := Config.pswrPlaces 2
  c := Config.pswrPlaces 3
  distinct := (List.nodup_map_iff (l := [0, 1, 2, 3]) Config.pswrPlaces.injective).2 (by decide)

/-- The place INTR_LAYOUT gives to the request of interrupt `n + 1`: open (R33). -/
def launchIntrPlace (n : Fin 10) : Fin 32 := Config.intrPlaces (n.castLE (by decide))

theorem launchIntrPlace_injective : Function.Injective launchIntrPlace := fun _ _ h =>
  Fin.castLE_injective _ (Config.intrPlaces.injective h)

/-- INTR_LAYOUT at launch: open, so the places are Config's (R33). -/
def launchIntrLayout : IntrLayout where
  pos := #v[launchIntrPlace 0, launchIntrPlace 1, launchIntrPlace 2, launchIntrPlace 3, launchIntrPlace 4,
    launchIntrPlace 5, launchIntrPlace 6, launchIntrPlace 7, launchIntrPlace 8, launchIntrPlace 9]
  dmaMask := Config.dmaRequestMask
  distinct :=
    (List.nodup_map_iff (l := [0, 1, 2, 3, 4, 5, 6, 7, 8, 9]) launchIntrPlace_injective).2 (by decide)

/-- MEM_MAP at launch: all 2^32 words of R60 are plain memory. DESIGN CHOICE, unsafe: log 5. -/
def launchMemMap : List Region := [{ base := 0, size := 2 ^ 32, kind := .plain }]

/-- The parameters at launch. PAIR_ORDER, STACK_DIR, SHIFT_FLAGS, OVERFLOW_IRQ, TRACE_MODE, DMA_MODEL, TIMER_MODEL,
IRQ_ENTRY_PSWR and CALL_RETURN_PC have the spec's defaults (R43, R220, R245, R273, R318, R336, R330, R310, R222). P_MODE and
W11_MODE have the value that gives the encoding an effect: DESIGN CHOICE, unsafe: log 10, 11. The rest is open. -/
def launchParams : Params where
  pairOrder := .firstHigh
  stackDir := .up
  shiftFlags := .none
  overflowIrq := .onStoredV
  traceMode := .off
  pMode := .ignore
  w11Mode := .both
  delayRestOfWord := Config.restOfWord
  delayWords := Config.delayWords
  pcReadAhead := Config.pcReadAhead
  pswrLayout := launchPswrLayout
  intrLayout := launchIntrLayout
  irqPredicates := Config.irqPredicates
  shiftTable := Config.shiftTable
  lopTable := Config.lopTable
  memMap := launchMemMap
  dmaModel := .none
  timerModel := .environment
  irqEntryPswr := .identity
  callReturnPc := .afterDelaySlots

/-- RESET_PC (R45, R351), which the spec leaves open: the address at which every program of 95_test_vectors.md is launched.
DESIGN CHOICE, unsafe: log 7. -/
def resetPc : Word := 0x00000100#32

end Sys2Proof.Machine
end

