-- ==== Sys2Proof/Machine/State.lean ====
section
/-!
DEFINITION. The state of the machine, its state after reset, and the reasons a step can stop. What each field is, its width
and its reset value stand in INVENTORY.md under State.
-/

namespace Sys2Proof.Machine

/-- The program-visible registers of one DMA channel (R35, R36). -/
structure Channel where
  icc : Word
  ica : Word
  occ : Word
  oca : Word
  dir : DWord
  dor : DWord
deriving DecidableEq, Repr

/-- A decided control transfer: it takes effect after `words` more fetch words (R39, R212). -/
structure Pending where
  target : Word
  words : Nat
deriving DecidableEq, Repr

/-- The interrupts that an agent other than the core requests (R301, R306). -/
inductive AsyncIrq where
  | timer0
  | external
  | dmaIn1
  | dmaIn0
  | dmaOut1
  | dmaOut0
  | timer1
deriving DecidableEq, Repr

/-- One action of an agent other than the core, between two steps (R306, R330, R336; log 28): a request, or what the DMA
co-processor does to memory, to the registers of a channel and to its request bits in INTR. -/
inductive Input where
  | request (q : AsyncIrq)
  | dmaStoreWord (addr : Word) (v : Word)
  | dmaStorePair (addr : Word) (v : DWord)
  | dmaChannel (c : Fin 2) (regs : Channel)
  | dmaRequests (bits : Word)
deriving DecidableEq, Repr

/-- The machine's state. `requests` holds the ten request bits of INTR, that of interrupt n at n - 1, and `dmaRequests` its
DMA request bits (R33, R302). The fields from `stored` on are the model's own: the words that are no launch code (R78), what
the other agents do next (R306), the wait of an enabled request (R309), the counter of the free values (R13), and the named
parameters (R8). -/
structure State where
  gr : Vector Word 8
  ar : Vector Word 8
  pc : Word
  pswr : Word
  requests : BitVec 10
  dmaRequests : Word
  t0 : Word
  t1 : Word
  dma : Vector Channel 2
  slot : Bool
  pending : Option Pending
  mem : Memory
  stored : List Nat
  inputs : List (List Input)
  irqWait : Option Nat
  draws : Nat
  par : Params
deriving DecidableEq, Repr

/-- Why the machine stops. -/
inductive Fault where
  /-- `raise IllegalInstruction` (R132, R316): raised by every meaning whose transfer part or OP part is a reserved encoding
  of R130. Safe: the hardware would enter the handler of interrupt 3, if it detects the encoding, and the model stops. -/
  | illegalInstruction
  /-- Stuck (R73): raised by every access of memory, fetch and stack included, at an address MEM_MAP does not back. Safe: no
  step is claimed. -/
  | noMemory
deriving DecidableEq, Repr

/-- What the spec refuses (R13), and what is not modelled. -/
inductive Refusal where
  /-- An instruction without a meaning in this model. Safe. -/
  | notModelled (mnemonic : String)
  /-- P = 1 while P_MODE is `refuse` (R122): any instruction. Safe. -/
  | parallelBit
  /-- Two writes of one register in one instruction word, or a write of PSWR together with a store of the flags (R125 point 6,
  R150): any instruction whose two parts, or whose load and mode, collide. Safe. -/
  | writeConflict
  /-- A move between a 32-bit and a 64-bit register code (R172): MOV. Safe. -/
  | moveWidth
  /-- A constant load into a 64-bit register code (R176): LDC. Safe. -/
  | constantWidth
  /-- W = 11 while W11_MODE is `refuse` (R244): the row W11. Safe. -/
  | undefinedW
  /-- A logical shift through carry by a non-zero count field (R257): LSHC. Safe. -/
  | shiftThroughCarry
  /-- A long format in the high half of a fetch word (R121): the fetch. Safe. -/
  | longInHighHalf
  /-- A control transfer decided while another is pending (R230): any instruction that writes PC. Safe. -/
  | transferInDelaySlot
  /-- A write of a DMA counter or address register or of DORn, or a read of DIRn, while DMA_MODEL is `none` (R36, R336): MOV,
  LDC, loads and stores. Safe. -/
  | dmaAccess
  /-- An access to a range that MEM_MAP calls a device (R71): every access of memory. Safe. -/
  | deviceAccess
  /-- A fetch of a word that the core or the DMA co-processor has stored to since reset (R78, R362). Safe. -/
  | selfModifiedCode
  /-- A term that stands for no word: an OP row in the place of a transfer part. Decoding never makes one. Safe. -/
  | illFormed
deriving DecidableEq, Repr

/-- A computation that can stop. -/
abbrev Result (α : Type) := Host.Outcome α Fault Refusal

/-- A channel with every register 0. -/
def Channel.zero : Channel := { icc := 0, ica := 0, occ := 0, oca := 0, dir := 0, dor := 0 }

/-- The machine right after reset. R45 gives `slot` and `pending`; it calls every register unspecified, and the model names 0
for each, and `resetPc` for PC (DESIGN CHOICE, unsafe: log 6, 7). No word of memory is listed: the launch memory is unknown
(log 4). No agent other than the core acts (log 28). -/
def State.reset : State where
  gr := Vector.replicate 8 0
  ar := Vector.replicate 8 0
  pc := resetPc
  pswr := 0
  requests := 0
  dmaRequests := 0
  t0 := 0
  t1 := 0
  dma := Vector.replicate 2 Channel.zero
  slot := false
  pending := none
  mem := []
  stored := []
  inputs := []
  irqWait := none
  draws := 0
  par := launchParams

end Sys2Proof.Machine
end

