-- ==== Sys2Proof/Machine/Flags.lean ====
section
/-!
DEFINITION. The flags in PSWR, the sixteen conditions, and every computation of the ALU and the shifter: the adder, the shifts
and rotates, the bitwise operations, and the flags of a result.
-/

namespace Sys2Proof.Machine

/-- Bit `i` of PSWR. (The word 0 is told apart first, so that a flag of the reset PSWR has a value although its place is open.) -/
def flagAt (w : Word) (i : Fin 32) : Bool := if w = 0 then false else w.getLsbD i.val

/-- The word with bit `i` set to `b`. -/
def withBit (w : Word) (i : Fin 32) (b : Bool) : Word :=
  if b then w ||| (1#32 <<< i.val) else w &&& ~~~(1#32 <<< i.val)

/-- N, Z, V and C as fields of PSWR (R30). -/
def flagsOfPswr (l : PswrLayout) (pswr : Word) : Flags :=
  { n := flagAt pswr l.n, z := flagAt pswr l.z, v := flagAt pswr l.v, c := flagAt pswr l.c }

/-- PSWR with the four flags stored; its other bits stay (R31). -/
def storeFlags (l : PswrLayout) (pswr : Word) (f : Flags) : Word :=
  withBit (withBit (withBit (withBit pswr l.n f.n) l.z f.z) l.v f.v) l.c f.c

/-- The flags a step reads: those from before the instruction (R125 point 4, R228). -/
def State.flags (s : State) : Flags := flagsOfPswr s.par.pswrLayout s.pswr

/-- A predicate on PSWR. -/
def pswrHolds (on : PswrPredicate) (pswr : Word) : Bool := on.any fun t => pswr &&& t.1 == t.2

/-- The word whose bit `b` is the predicate `bits[b]` of PSWR. -/
def wordOfPredicates (bits : Vector PswrPredicate 32) (pswr : Word) : Word :=
  (List.finRange 32).foldl (fun w b => if pswrHolds bits[b.val] pswr then w ||| (1#32 <<< b.val) else w) 0#32

/-- `cond(cc)` of Table 5-7 (R211). -/
def condHolds (cond : Cond) (f : Flags) : Bool :=
  match cond with
  | .cc => !f.c
  | .vc => !f.v
  | .gz => !(f.n || f.z)
  | .pl => !f.n
  | .gt => !((f.v ^^ f.n) || f.z)
  | .ge => !(f.v ^^ f.n)
  | .ne => !f.z
  | .al => true
  | .cs => f.c
  | .vs => f.v
  | .lez => f.n || f.z
  | .mi => f.n
  | .le => (f.v ^^ f.n) || f.z
  | .lt => f.v ^^ f.n
  | .eq => f.z
  | .nv => false

/-- What an operation of the ALU yields: the result, the carry and the overflow. -/
structure AluResult where
  res : Word
  c : Bool
  v : Bool
deriving DecidableEq, Repr

/-- The adder (R253): a 33-bit sum, with Cout its bit 32 (R252) and Vout (R251). -/
def adder (x y : Word) (cin : Bool) : AluResult :=
  let sum : BitVec 33 := x.zeroExtend 33 + y.zeroExtend 33 + (BitVec.ofBool cin).zeroExtend 33
  let res : Word := sum.setWidth 32
  { res := res, c := sum.getLsbD 32, v := x.msb == y.msb && res.msb != x.msb }

/-- The flags an operation stores: N and Z of the result (R250), with its carry and overflow. -/
def AluResult.flags (r : AluResult) : Flags :=
  { n := r.res.msb, z := r.res == 0#32, v := r.v, c := r.c }

/-- `rot` (R247). -/
def rotate (x : Word) (dir : Dir) (n : Nat) : Word :=
  match dir with
  | .left => x.rotateLeft (n % 32)
  | .right => x.rotateLeft ((32 - n % 32) % 32)

/-- `lsh` (R247). -/
def shiftLogical (x : Word) (dir : Dir) (n : Nat) : Word :=
  match dir with
  | .left => x <<< n
  | .right => x >>> n

/-- `ash` (R247): to the left as `lsh`, the spec's choice (D19). -/
def shiftArithmetical (x : Word) (dir : Dir) (n : Nat) : Word :=
  match dir with
  | .left => shiftLogical x .left n
  | .right => x.sshiftRight n

/-- SHIFT_DECODE (R246): the zero field shifts by nothing; the other fields are the parameter's (log 12). -/
def shiftDecode (par : Params) (count : BitVec 6) : Dir × Fin 33 :=
  if count = 0#6 then (.left, 0) else par.shiftTable[count.toNat]

/-- A Boolean function of two bits applied to each of the 32 bit positions (R258, R259). -/
def bitwise (f : Bool → Bool → Bool) (x y : Word) : Word :=
  (if f true true then x &&& y else 0#32) ||| (if f true false then x &&& ~~~y else 0#32) |||
    (if f false true then ~~~x &&& y else 0#32) ||| (if f false false then ~~~x &&& ~~~y else 0#32)

/-- LOP_MAP (R259): the parameter's Boolean function of (GRsrc2, GRsrc1) (log 13). -/
def lopFunction (par : Params) (code : BitVec 4) (x y : Bool) : Bool :=
  (par.lopTable[code.toNat]).getLsbD (2 * x.toNat + y.toNat)

/-- The result of LOG.k, with C and V left open (R258; log 15). -/
def logicalResult (par : Params) (code : BitVec 4) (s2 s1 : Word) (draw : Nat) : AluResult :=
  { res := bitwise (lopFunction par code) s2 s1, c := Config.undefinedC draw, v := Config.undefinedV draw }

/-- The writes of a multiplication step to general registers other than GR[d] (R269; log 14). -/
def otherWrites (m : MulStep) (d : RegIx) : List (RegIx × Word) :=
  (List.finRange 8).filterMap fun i => if i = d then none else (m.others[i.val]).map fun v => (i, v)

/-- Whether an arithmetical operation requests interrupt 2 (R273): `stores` says that it stores its flags. -/
def overflowRequested (mode : OverflowIrq) (stores vout : Bool) : Bool :=
  match mode with
  | .onStoredV => stores && vout
  | .onAnyV => vout
  | .never => false

end Sys2Proof.Machine
end

