-- ==== Sys2Proof/Machine/Ops.lean ====
section
/-!
DEFINITION. The named operations over memory and registers: the memory primitives, the sources and destinations a register
code can name, register pairs, the stack, entering an interrupt and returning, and how the transfer part and the OP part of
one instruction word combine (R125).
-/

namespace Sys2Proof.Machine

/-- Sequencing of computations that can stop. -/
def andThen {α β : Type} (r : Result α) (f : α → Result β) : Result β :=
  match r with
  | .next a => f a
  | .fault e => .fault e
  | .refused e => .refused e

/-! ### Memory (20_memory.md) -/

/-- What MEM_MAP says of a word address: the first range that holds it (R71, R73). -/
def memKindAt (map : List Region) (a : Nat) : Option MemKind :=
  (map.find? fun r => decide (r.base ≤ a) && decide (a < r.base + r.size)).map Region.kind

/-- One word can be accessed when it is backed by plain memory; an unbacked one is stuck (R73), a device is refused (R71). -/
def State.accessWord (s : State) (a : Word) : Result Unit :=
  match memKindAt s.par.memMap a.toNat with
  | some .plain => .next ()
  | some .device => .refused .deviceAccess
  | none => .fault .noMemory

/-- The even word of the 64-bit word that holds `a` (R63). -/
def evenWord (a : Word) : Word := a &&& 0xFFFFFFFE#32

/-- The odd word of the 64-bit word that holds `a` (R63). -/
def oddWord (a : Word) : Word := a ||| 1#32

/-- Every word of an access can be accessed. Of an access with one word unbacked (R73) and the other a device's (R71) the even
word decides which stop it is (DESIGN CHOICE: log 44). -/
def State.access (s : State) (a : Word) (wide : Bool) : Result Unit :=
  if wide then andThen (s.accessWord (evenWord a)) fun _ => s.accessWord (oddWord a) else s.accessWord a

/-- `M[a]` (R62). -/
def State.word (s : State) (a : Word) : Word := Memory.read s.mem a.toNat

/-- `M[a] <- v`, which R78 remembers. -/
def State.setWord (s : State) (a v : Word) : State :=
  { s with mem := Memory.write s.mem a.toNat v, stored := insertAddr a.toNat s.stored }

/-- The value of a read, a 32-bit one in bits 31:0: `MemRead` without its check (R63). -/
def State.readValue (s : State) (a : Word) (wide : Bool) : DWord :=
  if wide then s.word (oddWord a) ++ s.word (evenWord a) else (s.word a).zeroExtend 64

/-- The state after a write: `MemWrite` without its check (R64). -/
def State.writeValue (s : State) (a : Word) (wide : Bool) (v : DWord) : State :=
  if wide then (s.setWord (evenWord a) (v.extractLsb' 0 32)).setWord (oddWord a) (v.extractLsb' 32 32)
  else s.setWord a (v.extractLsb' 0 32)

/-- `MemRead(addr, n)` (R63). -/
def State.memRead (s : State) (a : Word) (wide : Bool) : Result DWord :=
  andThen (s.access a wide) fun _ => .next (s.readValue a wide)

/-- `MemWrite(addr, n, v)` (R64). -/
def State.memWrite (s : State) (a : Word) (wide : Bool) (v : DWord) : Result State :=
  andThen (s.access a wide) fun _ => .next (s.writeValue a wide v)

/-! ### Registers (10_state.md) -/

/-- `GR[i]` (R11). -/
def State.readGr (s : State) (i : RegIx) : Word := s.gr[i.val]

/-- `AR[i]` (R11). -/
def State.readAr (s : State) (i : RegIx) : Word := s.ar[i.val]

/-- `GR[i] <- v`. -/
def State.setGr (s : State) (i : RegIx) (v : Word) : State := { s with gr := s.gr.set i.val v i.isLt }

/-- `AR[i] <- v`. -/
def State.setAr (s : State) (i : RegIx) (v : Word) : State := { s with ar := s.ar.set i.val v i.isLt }

/-- The registers of DMA channel `c`. -/
def State.channel (s : State) (c : Fin 2) : Channel := s.dma[c.val]

/-- New registers for DMA channel `c`. -/
def State.setChannel (s : State) (c : Fin 2) (ch : Channel) : State := { s with dma := s.dma.set c.val ch c.isLt }

/-- The four 32-bit registers of a channel (R35). -/
inductive DmaReg where
  | oca
  | ica
  | occ
  | icc
deriving DecidableEq, Repr

/-- A 32-bit register of a channel. -/
def Channel.get (ch : Channel) (r : DmaReg) : Word :=
  match r with
  | .oca => ch.oca
  | .ica => ch.ica
  | .occ => ch.occ
  | .icc => ch.icc

/-- A 32-bit register of a channel written. -/
def Channel.set (ch : Channel) (r : DmaReg) (v : Word) : Channel :=
  match r with
  | .oca => { ch with oca := v }
  | .ica => { ch with ica := v }
  | .occ => { ch with occ := v }
  | .icc => { ch with icc := v }

/-- The last value written to a timer (R34). -/
def State.timer (s : State) (t : Timer) : Word :=
  match t with
  | .t0 => s.t0
  | .t1 => s.t1

/-- A timer written. -/
def State.setTimer (s : State) (t : Timer) (v : Word) : State :=
  match t with
  | .t0 => { s with t0 := v }
  | .t1 => { s with t1 := v }

/-- The 64-bit value of the pair `x,y` under PAIR_ORDER (R43). -/
def pairValue (o : PairOrder) (x y : Word) : DWord :=
  match o with
  | .firstHigh => x ++ y
  | .firstLow => y ++ x

/-- The first-named register's half of a pair's value. -/
def pairFirst (o : PairOrder) (v : DWord) : Word :=
  match o with
  | .firstHigh => v.extractLsb' 32 32
  | .firstLow => v.extractLsb' 0 32

/-- The second-named register's half of a pair's value. -/
def pairSecond (o : PairOrder) (v : DWord) : Word :=
  match o with
  | .firstHigh => v.extractLsb' 0 32
  | .firstLow => v.extractLsb' 32 32

/-! ### Interrupt requests and INTR (R33, R301, R302) -/

/-- The row of Table 4-1, counted from 0 (R301). -/
def Irq.row : Irq → Fin 10
  | .timer0 => 0
  | .overflow => 1
  | .illegal => 2
  | .external => 3
  | .dmaIn1 => 4
  | .dmaIn0 => 5
  | .dmaOut1 => 6
  | .dmaOut0 => 7
  | .timer1 => 8
  | .trace => 9

/-- The interrupts in order of priority (R304). -/
def irqOrder : List Irq :=
  [.timer0, .overflow, .illegal, .external, .dmaIn1, .dmaIn0, .dmaOut1, .dmaOut0, .timer1, .trace]

/-- The starting address `8 * (n - 1)` (R301). -/
def Irq.vector (n : Irq) : Word := BitVec.ofNat 32 (8 * (Irq.row n).val)

/-- `req(n)` (R302). -/
def State.req (s : State) (n : Irq) : Bool := s.requests.getLsbD (Irq.row n).val

/-- `req(n) <- 1`. -/
def State.raise (s : State) (n : Irq) : State :=
  { s with requests := s.requests ||| (1#10 <<< (Irq.row n).val) }

/-- `req(n) <- 0`. -/
def State.clearReq (s : State) (n : Irq) : State :=
  { s with requests := s.requests &&& ~~~(1#10 <<< (Irq.row n).val) }

/-- The bits of INTR that the layout gives to requests of which `on` is true. -/
def intrBits (l : IntrLayout) (on : Fin 10 → Bool) : Word :=
  (List.finRange 10).foldl (fun w n => if on n then w ||| (1#32 <<< (l.pos[n.val]).val) else w) 0#32

/-- The word a read of INTR yields: the requests, the DMA requests, and free values elsewhere (R33; log 19). -/
def State.intrWord (s : State) : Word :=
  let l := s.par.intrLayout
  let others := ~~~(intrBits l fun _ => true)
  intrBits l (fun n => s.requests.getLsbD n.val) ||| (s.dmaRequests &&& l.dmaMask &&& others) |||
    (Config.intrUnassigned s.draws &&& ~~~l.dmaMask &&& others)

/-! ### Reading and writing what a register code names (R40 to R43) -/

/-- What a register code names as a source. -/
inductive Src where
  | ar (i : RegIx)
  | gr (i : RegIx)
  | dma (r : DmaReg) (c : Fin 2)
  | timer (t : Timer)
  | pc
  | intr
  | pswr
  | grAr (i : RegIx)
  | occOca (c : Fin 2)
  | iccIca (c : Fin 2)
  | timers
  | dir (c : Fin 2)
  | pswrPc
deriving DecidableEq, Repr

/-- What a register code names as a destination. `returnPc` is no code's: it is the stack entry of which RET takes the PC
half (R225). -/
inductive Dst where
  | ar (i : RegIx)
  | gr (i : RegIx)
  | dma (r : DmaReg) (c : Fin 2)
  | timer (t : Timer)
  | pc
  | pswr
  | pswrSet
  | pswrReset
  | grAr (i : RegIx)
  | occOca (c : Fin 2)
  | iccIca (c : Fin 2)
  | timers
  | dor (c : Fin 2)
  | pswrPc
  | returnPc
deriving DecidableEq, Repr

/-- `width(c) = 64` (R40). -/
def Src.wide : Src → Bool
  | .ar _ | .gr _ | .dma _ _ | .timer _ | .pc | .intr | .pswr => false
  | .grAr _ | .occOca _ | .iccIca _ | .timers | .dir _ | .pswrPc => true

/-- `width(c) = 64` (R40). -/
def Dst.wide : Dst → Bool
  | .ar _ | .gr _ | .dma _ _ | .timer _ | .pc | .pswr | .pswrSet | .pswrReset => false
  | .grAr _ | .occOca _ | .iccIca _ | .timers | .dor _ | .pswrPc | .returnPc => true

/-- The reads that could start a DMA transfer: of DIRn (R36, R336). -/
def Src.touchesDma : Src → Bool
  | .dir _ => true
  | _ => false

/-- The writes that could start a DMA transfer: of the DMA counters, address registers and DORn (R36, R336). -/
def Dst.touchesDma : Dst → Bool
  | .dma _ _ | .occOca _ | .iccIca _ | .dor _ => true
  | _ => false

/-- The timers are read as free values: TIMER_MODEL leaves them to the environment (R330). -/
def timersFree : TimerModel → Bool
  | .environment => true
  | .counters _ _ => false

/-- Whether a read of the source takes a free value: the timers (R330) and INTR (R33). -/
def State.takesDraw (s : State) (x : Src) : Bool :=
  match x with
  | .timer _ | .timers => timersFree s.par.timerModel
  | .intr => true
  | _ => false

/-- The value an instruction sees in PC (R26, R215): the address of its fetch word and PC_READ_OFFSET. -/
def State.pcRead (s : State) : Word := s.pc + 2#32 * s.par.pcReadAhead

/-- The value a read of a timer yields: free, or the counter's under another TIMER_MODEL (R330; log 26). -/
def State.timerRead (s : State) (t : Timer) : Word :=
  if timersFree s.par.timerModel then Config.timerValue t s.draws (s.timer t) else s.timer t

/-- `RegRead` (R41); a 32-bit value stands in bits 31:0. -/
def State.readSrc (s : State) (x : Src) : DWord :=
  let pair := pairValue s.par.pairOrder
  match x with
  | .ar i => (s.readAr i).zeroExtend 64
  | .gr i => (s.readGr i).zeroExtend 64
  | .dma r c => ((s.channel c).get r).zeroExtend 64
  | .timer t => (s.timerRead t).zeroExtend 64
  | .pc => s.pcRead.zeroExtend 64
  | .intr => s.intrWord.zeroExtend 64
  | .pswr => s.pswr.zeroExtend 64
  | .grAr i => pair (s.readGr i) (s.readAr i)
  | .occOca c => pair ((s.channel c).get .occ) ((s.channel c).get .oca)
  | .iccIca c => pair ((s.channel c).get .icc) ((s.channel c).get .ica)
  | .timers => pair (s.timerRead .t1) (s.timerRead .t0)
  | .dir c => (s.channel c).dir
  | .pswrPc => pair s.pswr s.pcRead

/-- A register that an instruction can write, PC apart. -/
inductive Target where
  | gr (i : RegIx)
  | ar (i : RegIx)
  | pswr
  | timer (t : Timer)
  | dma (r : DmaReg) (c : Fin 2)
  | dor (c : Fin 2)
deriving DecidableEq, Repr

/-- One write of a register; a 32-bit value stands in bits 31:0. -/
structure RegWrite where
  reg : Target
  value : DWord
deriving DecidableEq, Repr

/-- A write of a 32-bit register. -/
def RegWrite.of (reg : Target) (v : Word) : RegWrite := { reg := reg, value := v.zeroExtend 64 }

/-- The registers a destination writes. -/
def Dst.targets : Dst → List Target
  | .ar i => [.ar i]
  | .gr i => [.gr i]
  | .dma r c => [.dma r c]
  | .timer t => [.timer t]
  | .pc => []
  | .pswr | .pswrSet | .pswrReset => [.pswr]
  | .grAr i => [.gr i, .ar i]
  | .occOca c => [.dma .occ c, .dma .oca c]
  | .iccIca c => [.dma .icc c, .dma .ica c]
  | .timers => [.timer .t1, .timer .t0]
  | .dor c => [.dor c]
  | .pswrPc => [.pswr]
  | .returnPc => []

/-- Whether a write of the destination is a control transfer (R174, R225). -/
def Dst.transfers : Dst → Bool
  | .pc | .pswrPc | .returnPc => true
  | _ => false

/-- The register writes of `RegWrite` (R42) for a value of the destination's width; `pswr` is PSWR before the instruction,
which PSWRset and PSWRreset change bit by bit (R32). -/
def Dst.writes (o : PairOrder) (pswr : Word) (d : Dst) (v : DWord) : List RegWrite :=
  let w : Word := v.extractLsb' 0 32
  match d with
  | .ar i => [RegWrite.of (.ar i) w]
  | .gr i => [RegWrite.of (.gr i) w]
  | .dma r c => [RegWrite.of (.dma r c) w]
  | .timer t => [RegWrite.of (.timer t) w]
  | .pc => []
  | .pswr => [RegWrite.of .pswr w]
  | .pswrSet => [RegWrite.of .pswr (pswr ||| w)]
  | .pswrReset => [RegWrite.of .pswr (pswr &&& ~~~w)]
  | .grAr i => [RegWrite.of (.gr i) (pairFirst o v), RegWrite.of (.ar i) (pairSecond o v)]
  | .occOca c => [RegWrite.of (.dma .occ c) (pairFirst o v), RegWrite.of (.dma .oca c) (pairSecond o v)]
  | .iccIca c => [RegWrite.of (.dma .icc c) (pairFirst o v), RegWrite.of (.dma .ica c) (pairSecond o v)]
  | .timers => [RegWrite.of (.timer .t1) (pairFirst o v), RegWrite.of (.timer .t0) (pairSecond o v)]
  | .dor c => [{ reg := .dor c, value := v }]
  | .pswrPc => [RegWrite.of .pswr (pairFirst o v)]
  | .returnPc => []

/-- The target of the control transfer, if the destination holds PC (R174). -/
def Dst.jump (o : PairOrder) (d : Dst) (v : DWord) : Option Word :=
  match d with
  | .pc => some (v.extractLsb' 0 32)
  | .pswrPc | .returnPc => some (pairSecond o v)
  | _ => none

/-- One register write done. -/
def State.write (s : State) (w : RegWrite) : State :=
  let v : Word := w.value.extractLsb' 0 32
  match w.reg with
  | .gr i => s.setGr i v
  | .ar i => s.setAr i v
  | .pswr => { s with pswr := v }
  | .timer t => s.setTimer t v
  | .dma r c => s.setChannel c ((s.channel c).set r v)
  | .dor c => s.setChannel c { s.channel c with dor := w.value }

/-- Register writes done. -/
def State.writeAll (s : State) (ws : List RegWrite) : State := ws.foldl State.write s

/-! ### The two parts of an instruction word and how they combine (R125) -/

/-- The data access of a transfer part: at most one (R75). -/
inductive Access where
  | none
  | load (addr : Word) (dst : Dst)
  | store (addr : Word) (wide : Bool) (value : DWord)
deriving DecidableEq, Repr

/-- What a transfer part yields (R125 point 5), all its operands read: its memory access, its register writes but those of a
load, its control transfer but that of a load, and whether it took a free value. -/
structure Plan where
  access : Access := .none
  writes : List RegWrite := []
  jump : Option Word := none
  draws : Bool := false
deriving DecidableEq, Repr

/-- What an OP part yields (R125 point 5): its writes of general registers (one, but for the multiplication steps, log 14), at
most one store of the flags, and whether it requests interrupt 2 (R317) and took free values. -/
structure OpEffect where
  grs : List (RegIx × Word) := []
  flags : Option Flags := none
  overflow : Bool := false
  draws : Bool := false
deriving DecidableEq, Repr

/-- The registers a transfer part writes, those of a load included. -/
def Plan.targets (t : Plan) : List Target :=
  t.writes.map RegWrite.reg ++
    match t.access with
    | .load _ dst => dst.targets
    | _ => []

/-- Whether a transfer part decides a control transfer. -/
def Plan.transfers (t : Plan) : Bool :=
  t.jump.isSome ||
    match t.access with
    | .load _ dst => dst.transfers
    | _ => false

/-- R125 point 6: two writes of one register, or a write of PSWR beside a store of the flags. -/
def collides (t : Plan) (o : OpEffect) : Bool :=
  !decide t.targets.Nodup ||
    (t.targets.any fun r =>
      match r with
      | .gr i => o.grs.any fun w => w.1 == i
      | _ => false) ||
    (o.flags.isSome && t.targets.contains .pswr)

/-- Writes of general registers done. -/
def State.setGrs (s : State) (ws : List (RegIx × Word)) : State := ws.foldl (fun s w => s.setGr w.1 w.2) s

/-- The effect of the OP part on the state. -/
def State.applyOp (s : State) (o : OpEffect) : State :=
  let s := s.setGrs o.grs
  let s := match o.flags with
    | some f => { s with pswr := storeFlags s.par.pswrLayout s.pswr f }
    | none => s
  if o.overflow then s.raise .overflow else s

/-- A control transfer decided (R212): it takes effect after BRANCH_DELAY. -/
def State.decideTransfer (s : State) (jump : Option Word) : State :=
  match jump with
  | some target => { s with pending := some { target := target, words := s.par.delayWords } }
  | none => s

/-- The counter of the free values moved on, if one was taken. -/
def State.advanceDraws (s : State) (used : Bool) : State :=
  if used then { s with draws := s.draws + 1 } else s

/-- The register writes of both parts, the control transfer and the counter, after the memory access (R125 point 7). -/
def State.finish (s : State) (writes : List RegWrite) (jump : Option Word) (draws : Bool) (o : OpEffect) : State :=
  (((s.writeAll writes).applyOp o).decideTransfer jump).advanceDraws (draws || o.draws)

/-- R125 points 6 and 7, and R230. -/
def commit (t : Plan) (o : OpEffect) (s : State) : Result State :=
  if collides t o then .refused .writeConflict
  else if t.transfers && s.pending.isSome then .refused .transferInDelaySlot
  else
    match t.access with
    | .none => .next (s.finish t.writes t.jump t.draws o)
    | .load a dst =>
      andThen (s.memRead a dst.wide) fun v =>
        .next (s.finish (t.writes ++ dst.writes s.par.pairOrder s.pswr v)
          (t.jump.or (dst.jump s.par.pairOrder v)) t.draws o)
    | .store a wide v => andThen (s.memWrite a wide v) fun s' => .next (s'.finish t.writes t.jump t.draws o)

/-- One instruction word (R125): the P bit first, then a reserved encoding in either part, then what else either part refuses,
then points 6 and 7. Which stop comes first where several hold is log 31. -/
def runWord (p : Bool) (t : Result Plan) (o : Result OpEffect) (s : State) : Result State :=
  if p && s.par.pMode == .refuse then .refused .parallelBit
  else
    match t, o with
    | .fault f, _ => .fault f
    | _, .fault f => .fault f
    | .refused r, _ => .refused r
    | _, .refused r => .refused r
    | .next t, .next o => commit t o s

/-- The null OP (R248): neither a read nor a write. -/
def nullOp : Result OpEffect := .next {}

/-- A transfer part that does nothing (R195, R229). -/
def noTransfer : Result Plan := .next {}

/-- A transfer part that may touch the DMA agent: under DMA_MODEL = none it is refused then (R36, R336). -/
def State.guardDma (s : State) (touches : Bool) (t : Plan) : Result Plan :=
  if touches && s.par.dmaModel == .none then .refused .dmaAccess else .next t

/-! ### The stack, calls, interrupts and returns (R220 to R225, R310) -/

/-- Where a push stores (R221). -/
def State.pushAddr (s : State) : Word :=
  match s.par.stackDir with
  | .up => s.readAr 7
  | .down => s.readAr 7 - 2#32

/-- AR7 after a push (R221). -/
def State.pushSp (s : State) : Word :=
  match s.par.stackDir with
  | .up => s.readAr 7 + 2#32
  | .down => s.readAr 7 - 2#32

/-- Where a pop loads (R225). -/
def State.popAddr (s : State) : Word :=
  match s.par.stackDir with
  | .up => s.readAr 7 - 2#32
  | .down => s.readAr 7

/-- AR7 after a pop (R225). -/
def State.popSp (s : State) : Word :=
  match s.par.stackDir with
  | .up => s.readAr 7 - 2#32
  | .down => s.readAr 7 + 2#32

/-- The stack entry: the pair PSWR,PC (R220). -/
def State.stackEntry (s : State) (pc : Word) : DWord := pairValue s.par.pairOrder s.pswr pc

/-- CALL_RETURN_PC (R222): the first fetch word after the call's delay slots, or the parameter's (log 30). -/
def State.callReturnPc (s : State) : Word :=
  match s.par.callReturnPc with
  | .afterDelaySlots => s.pc + 2#32 + 2#32 * BitVec.ofNat 32 s.par.delayWords
  | .offset words => s.pc + words

/-- The call sequence (R221). -/
def State.callPlan (s : State) (target : Word) : Plan :=
  { access := .store s.pushAddr true (s.stackEntry s.callReturnPc), writes := [RegWrite.of (.ar 7) s.pushSp],
    jump := some target }

/-- The return sequence (R225): `dst` is `returnPc` for RET, which leaves PSWR alone, and the pair PSWR,PC for IRET. -/
def State.returnPlan (s : State) (dst : Dst) : Plan :=
  { access := .load s.popAddr dst, writes := [RegWrite.of (.ar 7) s.popSp] }

/-- IRQ_ENTRY_PSWR (R310): the identity, the spec's default, or the parameter's function (log 22). -/
def irqEntryPswr (e : IrqEntryPswr) (pswr : Word) (n : Irq) : Word :=
  match e with
  | .identity => pswr
  | .function bits => wordOfPredicates bits[(Irq.row n).val] pswr

/-- Entering interrupt `n` (R310): the pair PSWR,PC is pushed, with PC the address of the fetch word not yet executed; the
request is cleared; PSWR becomes IRQ_ENTRY_PSWR; PC is the starting address at once. -/
def enterInterrupt (n : Irq) (s : State) : Result State :=
  andThen (s.memWrite s.pushAddr true (s.stackEntry s.pc)) fun s' =>
    .next { (s'.setAr 7 s.pushSp).clearReq n with
      pswr := irqEntryPswr s.par.irqEntryPswr s.pswr n, pc := Irq.vector n, slot := false }

end Sys2Proof.Machine
end

