-- ==== Sys2Proof/Machine/Operands.lean ====
section
/-!
DEFINITION. The operand forms: the register codes of Table 5-8 in each direction, the addressing modes of Tables 5-1 and 5-2,
the register modification modes of Tables 5-3 and 5-4, and the PC modification modes of Tables 5-5 and 5-6.
-/

namespace Sys2Proof.Machine

/-- The low three bits of a register code as a register index. -/
def codeIndex (code : RegCode) : RegIx := (code.extractLsb' 0 3).toFin

/-- Table 5-8, column "as source" (R40); none for the codes reserved as a source (R131). -/
def srcOf (code : RegCode) : Option Src :=
  let low := code.extractLsb' 0 3
  match code.extractLsb' 3 3 with
  | 0b000#3 => some (.ar (codeIndex code))
  | 0b001#3 =>
    match low with
    | 0b000#3 => some (.dma .oca 0)
    | 0b001#3 => some (.dma .ica 0)
    | 0b010#3 => some (.dma .oca 1)
    | 0b011#3 => some (.dma .ica 1)
    | 0b100#3 => some (.timer .t0)
    | 0b111#3 => some .pc
    | _ => none
  | 0b010#3 => some (.gr (codeIndex code))
  | 0b011#3 =>
    match low with
    | 0b000#3 => some (.dma .occ 0)
    | 0b001#3 => some (.dma .icc 0)
    | 0b010#3 => some (.dma .occ 1)
    | 0b011#3 => some (.dma .icc 1)
    | 0b100#3 => some (.timer .t1)
    | 0b110#3 => some .intr
    | 0b111#3 => some .pswr
    | _ => none
  | 0b100#3 => some (.grAr (codeIndex code))
  | 0b101#3 =>
    match low with
    | 0b000#3 => some (.occOca 0)
    | 0b001#3 => some (.iccIca 0)
    | 0b010#3 => some (.occOca 1)
    | 0b011#3 => some (.iccIca 1)
    | 0b100#3 => some .timers
    | 0b101#3 => some (.dir 0)
    | 0b110#3 => some (.dir 1)
    | _ => some .pswrPc
  | _ => none

/-- Table 5-8, column "as destination" (R40); none for the codes reserved as a destination (R131). -/
def dstOf (code : RegCode) : Option Dst :=
  let low := code.extractLsb' 0 3
  match code.extractLsb' 3 3 with
  | 0b000#3 => some (.ar (codeIndex code))
  | 0b001#3 =>
    match low with
    | 0b000#3 => some (.dma .oca 0)
    | 0b001#3 => some (.dma .ica 0)
    | 0b010#3 => some (.dma .oca 1)
    | 0b011#3 => some (.dma .ica 1)
    | 0b100#3 => some (.timer .t0)
    | 0b111#3 => some .pc
    | _ => none
  | 0b010#3 => some (.gr (codeIndex code))
  | 0b011#3 =>
    match low with
    | 0b000#3 => some (.dma .occ 0)
    | 0b001#3 => some (.dma .icc 0)
    | 0b010#3 => some (.dma .occ 1)
    | 0b011#3 => some (.dma .icc 1)
    | 0b100#3 => some (.timer .t1)
    | 0b101#3 => some .pswrReset
    | 0b111#3 => some .pswr
    | _ => none
  | 0b100#3 => some (.grAr (codeIndex code))
  | 0b101#3 =>
    match low with
    | 0b000#3 => some (.occOca 0)
    | 0b001#3 => some (.iccIca 0)
    | 0b010#3 => some (.occOca 1)
    | 0b011#3 => some (.iccIca 1)
    | 0b100#3 => some .timers
    | 0b101#3 => some (.dor 0)
    | 0b110#3 => some (.dor 1)
    | _ => some .pswrPc
  | 0b111#3 => if low = 0b101#3 then some .pswrSet else none
  | _ => none

/-- The step `a` of the pre-decrement and post-increment modes: the width in words (R142). -/
def stepOf (wide : Bool) : Word := if wide then 2#32 else 1#32

/-- `fadr` of Table 5-1 (R141), with `a` = AR[i], `g` = GR[i] and the step. -/
def amAddress (am : AM) (a g step : Word) : Word :=
  match am with
  | .gr => g
  | .preAddGr => a + g
  | .loadGr => g
  | .ar => a
  | .postAddGr => a
  | .preDec => a - step
  | .postInc => a

/-- `fm` of Table 5-1 (R141): the new AR[i]; none for the modes that write no register (R144). -/
def amUpdate (am : AM) (a g step : Word) : Option Word :=
  match am with
  | .gr => none
  | .preAddGr => some (a + g)
  | .loadGr => some g
  | .ar => none
  | .postAddGr => some (a + g)
  | .preDec => some (a - step)
  | .postInc => some (a + step)

/-- `fadr` of Table 5-2 (R143). -/
def amcAddress (amc : AMC) (a k : Word) : Word :=
  match amc with
  | .absolute => k
  | .preAddK => a + k
  | .loadK => k

/-- `fm` of Table 5-2 (R143): the new AR[i]; none for the mode that writes no register (R144). -/
def amcUpdate (amc : AMC) (a k : Word) : Option Word :=
  match amc with
  | .absolute => none
  | .preAddK => some (a + k)
  | .loadK => some k

/-- The write of AR[i] by a mode, if it has one. -/
def modeWrite (i : RegIx) (newA : Option Word) : List RegWrite :=
  match newA with
  | some v => [RegWrite.of (.ar i) v]
  | none => []

/-- `j = {I[24], I[17:16]}` (R103): bit 24 is the top bit of the ARi field. -/
def arjIndex (i : RegIx) (j : Fin 4) : RegIx :=
  if i.val < 4 then ⟨j.val, by omega⟩ else ⟨4 + j.val, by omega⟩

/-- Table 5-3 (R191). -/
def rmValue (rm : RM) (a g : Word) : Word :=
  match rm with
  | .ar => a
  | .arAddGr => a + g
  | .gr => g

/-- Table 5-4 (R192). -/
def rmcValue (rmc : RMC) (a k : Word) : Word :=
  match rmc with
  | .ar => a
  | .arAddK => a + k
  | .k => k

/-- Table 5-5 (R213), with PCbase the value an instruction reads from PC (R215). -/
def pmTarget (pm : PM) (i : RegIx) (s : State) : Word :=
  match pm with
  | .ar => s.readAr i
  | .arAddGr => s.readAr i + s.readGr i
  | .gr => s.readGr i
  | .pcAddGr => s.pcRead + s.readGr i

/-- Table 5-6 (R214). -/
def pmcTarget (pmc : PMC) (i : RegIx) (k : Word) (s : State) : Word :=
  match pmc with
  | .ar => s.readAr i
  | .arAddK => s.readAr i + k
  | .k => k
  | .pcAddK => s.pcRead + k

end Sys2Proof.Machine
end

