-- ==== Sys2Proof/Machine/AddressModify.lean ====
section
/-!
DEFINITION. ARM.R, ARM.I, NOP.R, NOP.I and the reserved codes of their formats (42_address_modify.md).
-/

namespace Sys2Proof.Machine

/-- ARM.R, the transfer part (R193). -/
def planArmR (rm : RM) (i : RegIx) (j : Fin 4) (s : State) : Result Plan :=
  .next { writes := [RegWrite.of (.ar (arjIndex i j)) (rmValue rm (s.readAr i) (s.readGr i))] }

/-- ARM.I, the transfer part (R194). -/
def planArmI (rmc : RMC) (i : RegIx) (j : Fin 4) (k : Word) (s : State) : Result Plan :=
  .next { writes := [RegWrite.of (.ar (arjIndex i j)) (rmcValue rmc (s.readAr i) k)] }

/-- NOP.R, the transfer part (R195). -/
def planNopR : Result Plan := noTransfer

/-- NOP.I, the transfer part (R196). -/
def planNopI : Result Plan := noTransfer

/-- ARM.R with RM = 11 (R130, R191). -/
def planReservedRm11 : Result Plan := .fault .illegalInstruction

/-- ARM.I with RMC = 11 (R130, R192). -/
def planReservedRmc11 : Result Plan := .fault .illegalInstruction

/-- Bits 30:28 = 101 with 21:20 not 01 (R130). -/
def planReserved101 : Result Plan := .fault .illegalInstruction

/-- ARM.R with the null OP (R193). -/
def execArmR (p : Bool) (rm : RM) (i : RegIx) (j : Fin 4) (s : State) : Result State :=
  runWord p (planArmR rm i j s) nullOp s

/-- ARM.I with the null OP (R194). -/
def execArmI (p : Bool) (rmc : RMC) (i : RegIx) (j : Fin 4) (k : Word) (s : State) : Result State :=
  runWord p (planArmI rmc i j k s) nullOp s

/-- NOP.R with the null OP (R195): the canonical no-operation (R134). -/
def execNopR (p : Bool) (s : State) : Result State := runWord p planNopR nullOp s

/-- NOP.I with the null OP (R196). -/
def execNopI (p : Bool) (_k : Word) (s : State) : Result State := runWord p planNopI nullOp s

/-- ARM.R with RM = 11: `raise IllegalInstruction` (R191, R316). -/
def execReservedRm11 (p : Bool) (_i : RegIx) (_j : Fin 4) (s : State) : Result State :=
  runWord p planReservedRm11 nullOp s

/-- ARM.I with RMC = 11: `raise IllegalInstruction` (R192, R316). -/
def execReservedRmc11 (p : Bool) (_i : RegIx) (_j : Fin 4) (_k : Word) (s : State) : Result State :=
  runWord p planReservedRmc11 nullOp s

/-- Bits 30:28 = 101 with 21:20 not 01: `raise IllegalInstruction` (R130, R316). -/
def execReserved101 (p : Bool) (_bits : BitVec 12) (s : State) : Result State := runWord p planReserved101 nullOp s

end Sys2Proof.Machine
end

