-- ==== Sys2Proof/Machine/Control.lean ====
section
/-!
DEFINITION. JMP.R, CALL.R, JMP.I, CALL.I, RET, IRET, the reserved part of the control space (43_control.md) and the user
defined space (45_user_defined.md).
-/

namespace Sys2Proof.Machine

/-- A control instruction: nothing at all when its condition is false on the flags from before the instruction (R228, R229). -/
def planIf (cond : Cond) (s : State) (t : Plan) : Result Plan := if condHolds cond s.flags then .next t else noTransfer

/-- JMP.R, the transfer part (R216). -/
def planJmpR (pm : PM) (i : RegIx) (cond : Cond) (s : State) : Result Plan :=
  planIf cond s { jump := some (pmTarget pm i s) }

/-- JMP.I, the transfer part (R218). -/
def planJmpI (pmc : PMC) (i : RegIx) (cond : Cond) (k : Word) (s : State) : Result Plan :=
  planIf cond s { jump := some (pmcTarget pmc i k s) }

/-- CALL.R, the transfer part (R217). -/
def planCallR (pm : PM) (i : RegIx) (cond : Cond) (s : State) : Result Plan := planIf cond s (s.callPlan (pmTarget pm i s))

/-- CALL.I, the transfer part (R219). -/
def planCallI (pmc : PMC) (i : RegIx) (cond : Cond) (k : Word) (s : State) : Result Plan :=
  planIf cond s (s.callPlan (pmcTarget pmc i k s))

/-- RET, the transfer part (R223): PC only. -/
def planRet (cond : Cond) (s : State) : Result Plan := planIf cond s (s.returnPlan .returnPc)

/-- IRET, the transfer part (R224): PC and PSWR. -/
def planIret (cond : Cond) (s : State) : Result Plan := planIf cond s (s.returnPlan .pswrPc)

/-- Bits 30:28 = 000 outside the jump and return patterns (R130). -/
def planReserved000 : Result Plan := .fault .illegalInstruction

/-- The user defined space: UDI is empty (R290). -/
def planUdi : Result Plan := .fault .illegalInstruction

/-- JMP.R with the null OP (R216). -/
def execJmpR (p : Bool) (pm : PM) (i : RegIx) (cond : Cond) (s : State) : Result State :=
  runWord p (planJmpR pm i cond s) nullOp s

/-- CALL.R with the null OP (R217). -/
def execCallR (p : Bool) (pm : PM) (i : RegIx) (cond : Cond) (s : State) : Result State :=
  runWord p (planCallR pm i cond s) nullOp s

/-- JMP.I with the null OP (R218). -/
def execJmpI (p : Bool) (pmc : PMC) (i : RegIx) (cond : Cond) (k : Word) (s : State) : Result State :=
  runWord p (planJmpI pmc i cond k s) nullOp s

/-- CALL.I with the null OP (R219). -/
def execCallI (p : Bool) (pmc : PMC) (i : RegIx) (cond : Cond) (k : Word) (s : State) : Result State :=
  runWord p (planCallI pmc i cond k s) nullOp s

/-- RET with the null OP (R223). -/
def execRet (p : Bool) (cond : Cond) (s : State) : Result State := runWord p (planRet cond s) nullOp s

/-- IRET with the null OP (R224). -/
def execIret (p : Bool) (cond : Cond) (s : State) : Result State := runWord p (planIret cond s) nullOp s

/-- Bits 30:28 = 000 outside the jump and return patterns: `raise IllegalInstruction` (R130, R316). -/
def execReserved000 (p : Bool) (_bits : BitVec 12) (s : State) : Result State := runWord p planReserved000 nullOp s

/-- The user defined space: `raise IllegalInstruction`, the parameter UDI being empty (R290, R316). -/
def execUdi (p : Bool) (_bits : BitVec 12) (s : State) : Result State := runWord p planUdi nullOp s

end Sys2Proof.Machine
end

