-- ==== Sys2Proof/Machine/LoadStore.lean ====
section
/-!
DEFINITION. LD.R, ST.R, LD.I, ST.I and the reserved modes of their formats (40_load_store.md).
-/

namespace Sys2Proof.Machine

/-- LD.R, the transfer part (R145). -/
def planLdR (am : AM) (i : RegIx) (r : RegCode) (s : State) : Result Plan :=
  match dstOf r with
  | none => .fault .illegalInstruction
  | some d =>
    let step := stepOf d.wide
    s.guardDma d.touchesDma
      { access := .load (amAddress am (s.readAr i) (s.readGr i) step) d,
        writes := modeWrite i (amUpdate am (s.readAr i) (s.readGr i) step) }

/-- ST.R, the transfer part (R146). -/
def planStR (am : AM) (i : RegIx) (r : RegCode) (s : State) : Result Plan :=
  match srcOf r with
  | none => .fault .illegalInstruction
  | some x =>
    let step := stepOf x.wide
    s.guardDma x.touchesDma
      { access := .store (amAddress am (s.readAr i) (s.readGr i) step) x.wide (s.readSrc x),
        writes := modeWrite i (amUpdate am (s.readAr i) (s.readGr i) step), draws := s.takesDraw x }

/-- LD.I, the transfer part (R147). -/
def planLdI (amc : AMC) (i : RegIx) (r : RegCode) (k : Word) (s : State) : Result Plan :=
  match dstOf r with
  | none => .fault .illegalInstruction
  | some d =>
    s.guardDma d.touchesDma
      { access := .load (amcAddress amc (s.readAr i) k) d, writes := modeWrite i (amcUpdate amc (s.readAr i) k) }

/-- ST.I, the transfer part (R148). -/
def planStI (amc : AMC) (i : RegIx) (r : RegCode) (k : Word) (s : State) : Result Plan :=
  match srcOf r with
  | none => .fault .illegalInstruction
  | some x =>
    s.guardDma x.touchesDma
      { access := .store (amcAddress amc (s.readAr i) k) x.wide (s.readSrc x),
        writes := modeWrite i (amcUpdate amc (s.readAr i) k), draws := s.takesDraw x }

/-- LS.R with AM = 011 (R130, R141). -/
def planReservedAm011 : Result Plan := .fault .illegalInstruction

/-- LS.I with AMC = 11 (R130, R143). -/
def planReservedAmc11 : Result Plan := .fault .illegalInstruction

/-- LD.R with the null OP (R145). -/
def execLdR (p : Bool) (am : AM) (i : RegIx) (r : RegCode) (s : State) : Result State :=
  runWord p (planLdR am i r s) nullOp s

/-- ST.R with the null OP (R146). -/
def execStR (p : Bool) (am : AM) (i : RegIx) (r : RegCode) (s : State) : Result State :=
  runWord p (planStR am i r s) nullOp s

/-- LD.I with the null OP (R147). -/
def execLdI (p : Bool) (amc : AMC) (i : RegIx) (r : RegCode) (k : Word) (s : State) : Result State :=
  runWord p (planLdI amc i r k s) nullOp s

/-- ST.I with the null OP (R148). -/
def execStI (p : Bool) (amc : AMC) (i : RegIx) (r : RegCode) (k : Word) (s : State) : Result State :=
  runWord p (planStI amc i r k s) nullOp s

/-- LS.R with AM = 011: `raise IllegalInstruction` (R141, R316). -/
def execReservedAm011 (p _store : Bool) (_i : RegIx) (_r : RegCode) (s : State) : Result State :=
  runWord p planReservedAm011 nullOp s

/-- LS.I with AMC = 11: `raise IllegalInstruction` (R143, R316). -/
def execReservedAmc11 (p _store : Bool) (_i : RegIx) (_r : RegCode) (_k : Word) (s : State) : Result State :=
  runWord p planReservedAmc11 nullOp s

end Sys2Proof.Machine
end

