-- ==== Sys2Proof/Machine/MoveConst.lean ====
section
/-!
DEFINITION. MOV, LDC, PSWRSET, PSWRRST and the reserved space beside them (41_move_const.md).
-/

namespace Sys2Proof.Machine

/-- The transfer part that writes `v` to a destination without a memory access (R42, R174). -/
def planWrite (d : Dst) (v : DWord) (draws : Bool) (s : State) : Plan :=
  { writes := d.writes s.par.pairOrder s.pswr v, jump := d.jump s.par.pairOrder v, draws := draws }

/-- MOV, the transfer part (R171): reserved codes first, then the widths (R172), then the DMA agent's registers (R336). -/
def planMov (rd rs : RegCode) (s : State) : Result Plan :=
  match srcOf rs, dstOf rd with
  | some x, some d =>
    if x.wide == d.wide then
      s.guardDma (x.touchesDma || d.touchesDma) (planWrite d (s.readSrc x) (s.takesDraw x) s)
    else .refused .moveWidth
  | _, _ => .fault .illegalInstruction

/-- LDC, the transfer part (R175, R176, R336). -/
def planLdc (rd : RegCode) (k : Word) (s : State) : Result Plan :=
  match dstOf rd with
  | none => .fault .illegalInstruction
  | some d =>
    if d.wide then .refused .constantWidth else s.guardDma d.touchesDma (planWrite d (k.zeroExtend 64) false s)

/-- PSWRSET, the transfer part (R177): LDC to PSWRset. -/
def planPswrSet (k : Word) (s : State) : Result Plan := .next (planWrite .pswrSet (k.zeroExtend 64) false s)

/-- PSWRRST, the transfer part (R178): LDC to PSWRreset. -/
def planPswrRst (k : Word) (s : State) : Result Plan := .next (planWrite .pswrReset (k.zeroExtend 64) false s)

/-- Bits 30:28 = 100 with 21:20 = 11 (R130). -/
def planReserved100 : Result Plan := .fault .illegalInstruction

/-- MOV with the null OP (R171). -/
def execMov (p : Bool) (rd rs : RegCode) (s : State) : Result State := runWord p (planMov rd rs s) nullOp s

/-- LDC with the null OP (R175). -/
def execLdc (p : Bool) (rd : RegCode) (k : Word) (s : State) : Result State := runWord p (planLdc rd k s) nullOp s

/-- PSWRSET with the null OP (R177). -/
def execPswrSet (p : Bool) (k : Word) (s : State) : Result State := runWord p (planPswrSet k s) nullOp s

/-- PSWRRST with the null OP (R178). -/
def execPswrRst (p : Bool) (k : Word) (s : State) : Result State := runWord p (planPswrRst k s) nullOp s

/-- Bits 30:28 = 100 with 21:20 = 11: `raise IllegalInstruction` (R130, R316). -/
def execReserved100 (p : Bool) (_a : BitVec 6) (_b : BitVec 4) (_k : Word) (s : State) : Result State :=
  runWord p planReserved100 nullOp s

end Sys2Proof.Machine
end

