-- ==== Sys2Proof/Machine/TransferPart.lean ====
section
/-!
DEFINITION. The transfer part of an instruction word, whichever row it is, for the OP rows that carry it (R14, R125).
-/

namespace Sys2Proof.Machine

/-- The P bit of a word (R92): it stands in the transfer row. -/
def parallelOf : Instr → Bool
  | .reservedAm011 p _ _ _ => p
  | .ldR p _ _ _ => p
  | .stR p _ _ _ => p
  | .reservedAmc11 p _ _ _ _ => p
  | .ldI p _ _ _ _ => p
  | .stI p _ _ _ _ => p
  | .mov p _ _ => p
  | .pswrSet p _ => p
  | .pswrRst p _ => p
  | .ldc p _ _ => p
  | .reservedRmc11 p _ _ _ => p
  | .armI p _ _ _ _ => p
  | .nopI p _ => p
  | .jmpI p _ _ _ _ => p
  | .callI p _ _ _ _ => p
  | .reserved100 p _ _ _ => p
  | .reservedRm11 p _ _ => p
  | .armR p _ _ _ => p
  | .nopR p => p
  | .reserved101 p _ => p
  | .jmpR p _ _ _ => p
  | .callR p _ _ _ => p
  | .ret p _ => p
  | .iret p _ => p
  | .reserved000 p _ => p
  | .udi p _ => p
  | .rot _ _ _ t => parallelOf t
  | .lsh _ _ _ t => parallelOf t
  | .ash _ _ _ t => parallelOf t
  | .lshc _ _ _ t => parallelOf t
  | .reservedAop101x _ _ _ _ _ t => parallelOf t
  | .reservedAop11x1 _ _ _ _ _ t => parallelOf t
  | .reservedAop111x _ _ _ _ t => parallelOf t
  | .w11 _ _ _ _ _ t => parallelOf t
  | .log0W _ _ _ t => parallelOf t
  | .log0F _ _ _ t => parallelOf t
  | .log1W _ _ _ t => parallelOf t
  | .log1F _ _ _ t => parallelOf t
  | .log2W _ _ _ t => parallelOf t
  | .log2F _ _ _ t => parallelOf t
  | .log3W _ _ _ t => parallelOf t
  | .log3F _ _ _ t => parallelOf t
  | .log4W _ _ _ t => parallelOf t
  | .log4F _ _ _ t => parallelOf t
  | .log5W _ _ _ t => parallelOf t
  | .log5F _ _ _ t => parallelOf t
  | .log6W _ _ _ t => parallelOf t
  | .log6F _ _ _ t => parallelOf t
  | .log7W _ _ _ t => parallelOf t
  | .log7F _ _ _ t => parallelOf t
  | .log8W _ _ _ t => parallelOf t
  | .log8F _ _ _ t => parallelOf t
  | .log9W _ _ _ t => parallelOf t
  | .log9F _ _ _ t => parallelOf t
  | .log10W _ _ _ t => parallelOf t
  | .log10F _ _ _ t => parallelOf t
  | .log11W _ _ _ t => parallelOf t
  | .log11F _ _ _ t => parallelOf t
  | .log12W _ _ _ t => parallelOf t
  | .log12F _ _ _ t => parallelOf t
  | .log13W _ _ _ t => parallelOf t
  | .log13F _ _ _ t => parallelOf t
  | .log14W _ _ _ t => parallelOf t
  | .log14F _ _ _ t => parallelOf t
  | .log15W _ _ _ t => parallelOf t
  | .log15F _ _ _ t => parallelOf t
  | .subW _ _ _ t => parallelOf t
  | .subF _ _ _ t => parallelOf t
  | .subcW _ _ _ t => parallelOf t
  | .subcF _ _ _ t => parallelOf t
  | .incW _ _ _ t => parallelOf t
  | .incF _ _ _ t => parallelOf t
  | .adc0W _ _ _ t => parallelOf t
  | .adc0F _ _ _ t => parallelOf t
  | .decW _ _ _ t => parallelOf t
  | .decF _ _ _ t => parallelOf t
  | .deccW _ _ _ t => parallelOf t
  | .deccF _ _ _ t => parallelOf t
  | .addW _ _ _ t => parallelOf t
  | .addF _ _ _ t => parallelOf t
  | .addcW _ _ _ t => parallelOf t
  | .addcF _ _ _ t => parallelOf t
  | .mulfW _ _ _ t => parallelOf t
  | .mulfF _ _ _ t => parallelOf t
  | .mulsW _ _ _ t => parallelOf t
  | .mulsF _ _ _ t => parallelOf t
  | .negW _ _ _ t => parallelOf t
  | .negF _ _ _ t => parallelOf t

/-- What the transfer part yields on the state before the instruction (R125 points 2 to 5). -/
def transferPart (t : Instr) (s : State) : Result Plan :=
  match t with
  | .reservedAm011 _ _ _ _ => planReservedAm011
  | .ldR _ am i r => planLdR am i r s
  | .stR _ am i r => planStR am i r s
  | .reservedAmc11 _ _ _ _ _ => planReservedAmc11
  | .ldI _ amc i r k => planLdI amc i r k s
  | .stI _ amc i r k => planStI amc i r k s
  | .mov _ rd rs => planMov rd rs s
  | .pswrSet _ k => planPswrSet k s
  | .pswrRst _ k => planPswrRst k s
  | .ldc _ rd k => planLdc rd k s
  | .reservedRmc11 _ _ _ _ => planReservedRmc11
  | .armI _ rmc i j k => planArmI rmc i j k s
  | .nopI _ _ => planNopI
  | .jmpI _ pmc i cond k => planJmpI pmc i cond k s
  | .callI _ pmc i cond k => planCallI pmc i cond k s
  | .reserved100 _ _ _ _ => planReserved100
  | .reservedRm11 _ _ _ => planReservedRm11
  | .armR _ rm i j => planArmR rm i j s
  | .nopR _ => planNopR
  | .reserved101 _ _ => planReserved101
  | .jmpR _ pm i cond => planJmpR pm i cond s
  | .callR _ pm i cond => planCallR pm i cond s
  | .ret _ cond => planRet cond s
  | .iret _ cond => planIret cond s
  | .reserved000 _ _ => planReserved000
  | .udi _ _ => planUdi
  | .rot _ _ _ _ => .refused .illFormed
  | .lsh _ _ _ _ => .refused .illFormed
  | .ash _ _ _ _ => .refused .illFormed
  | .lshc _ _ _ _ => .refused .illFormed
  | .reservedAop101x _ _ _ _ _ _ => .refused .illFormed
  | .reservedAop11x1 _ _ _ _ _ _ => .refused .illFormed
  | .reservedAop111x _ _ _ _ _ => .refused .illFormed
  | .w11 _ _ _ _ _ _ => .refused .illFormed
  | .log0W _ _ _ _ => .refused .illFormed
  | .log0F _ _ _ _ => .refused .illFormed
  | .log1W _ _ _ _ => .refused .illFormed
  | .log1F _ _ _ _ => .refused .illFormed
  | .log2W _ _ _ _ => .refused .illFormed
  | .log2F _ _ _ _ => .refused .illFormed
  | .log3W _ _ _ _ => .refused .illFormed
  | .log3F _ _ _ _ => .refused .illFormed
  | .log4W _ _ _ _ => .refused .illFormed
  | .log4F _ _ _ _ => .refused .illFormed
  | .log5W _ _ _ _ => .refused .illFormed
  | .log5F _ _ _ _ => .refused .illFormed
  | .log6W _ _ _ _ => .refused .illFormed
  | .log6F _ _ _ _ => .refused .illFormed
  | .log7W _ _ _ _ => .refused .illFormed
  | .log7F _ _ _ _ => .refused .illFormed
  | .log8W _ _ _ _ => .refused .illFormed
  | .log8F _ _ _ _ => .refused .illFormed
  | .log9W _ _ _ _ => .refused .illFormed
  | .log9F _ _ _ _ => .refused .illFormed
  | .log10W _ _ _ _ => .refused .illFormed
  | .log10F _ _ _ _ => .refused .illFormed
  | .log11W _ _ _ _ => .refused .illFormed
  | .log11F _ _ _ _ => .refused .illFormed
  | .log12W _ _ _ _ => .refused .illFormed
  | .log12F _ _ _ _ => .refused .illFormed
  | .log13W _ _ _ _ => .refused .illFormed
  | .log13F _ _ _ _ => .refused .illFormed
  | .log14W _ _ _ _ => .refused .illFormed
  | .log14F _ _ _ _ => .refused .illFormed
  | .log15W _ _ _ _ => .refused .illFormed
  | .log15F _ _ _ _ => .refused .illFormed
  | .subW _ _ _ _ => .refused .illFormed
  | .subF _ _ _ _ => .refused .illFormed
  | .subcW _ _ _ _ => .refused .illFormed
  | .subcF _ _ _ _ => .refused .illFormed
  | .incW _ _ _ _ => .refused .illFormed
  | .incF _ _ _ _ => .refused .illFormed
  | .adc0W _ _ _ _ => .refused .illFormed
  | .adc0F _ _ _ _ => .refused .illFormed
  | .decW _ _ _ _ => .refused .illFormed
  | .decF _ _ _ _ => .refused .illFormed
  | .deccW _ _ _ _ => .refused .illFormed
  | .deccF _ _ _ _ => .refused .illFormed
  | .addW _ _ _ _ => .refused .illFormed
  | .addF _ _ _ _ => .refused .illFormed
  | .addcW _ _ _ _ => .refused .illFormed
  | .addcF _ _ _ _ => .refused .illFormed
  | .mulfW _ _ _ _ => .refused .illFormed
  | .mulfF _ _ _ _ => .refused .illFormed
  | .mulsW _ _ _ _ => .refused .illFormed
  | .mulsF _ _ _ _ => .refused .illFormed
  | .negW _ _ _ _ => .refused .illFormed
  | .negF _ _ _ _ => .refused .illFormed

/-- An instruction word with the transfer part `t` and the OP part `o` (R125). -/
def runOp (t : Instr) (o : Result OpEffect) (s : State) : Result State :=
  runWord (parallelOf t) (transferPart t s) o s

end Sys2Proof.Machine
end

