-- ==== Sys2Proof/Machine/Arith.lean ====
section
/-!
DEFINITION. The arithmetical operations (44_alu_op.md R260 to R274), the reserved codes (R272) and W = 11 (R244).
-/

namespace Sys2Proof.Machine

/-- R274 with W = 01: GRdst takes the result, PSWR is not touched; interrupt 2 by OVERFLOW_IRQ (R273). -/
def arithW (r : AluResult) (d : RegIx) (s : State) : Result OpEffect :=
  .next { grs := [(d, r.res)], overflow := overflowRequested s.par.overflowIrq false r.v }

/-- R274 with W = 10: the flags are stored, no register is written; interrupt 2 by OVERFLOW_IRQ (R273). -/
def arithF (r : AluResult) (s : State) : Result OpEffect :=
  .next { flags := some r.flags, overflow := overflowRequested s.par.overflowIrq true r.v }

/-- SUB: adder(s2, ~s1, 1) (R260, R261). -/
def subResult (s2 s1 : RegIx) (s : State) : AluResult := adder (s.readGr s2) (~~~(s.readGr s1)) true

/-- SUBC: adder(s2, ~s1, C) (R260, R262). -/
def subcResult (s2 s1 : RegIx) (s : State) : AluResult := adder (s.readGr s2) (~~~(s.readGr s1)) s.flags.c

/-- INC: adder(s2, 0, 1) (R260, R263); GRsrc1 is ignored. -/
def incResult (s2 : RegIx) (s : State) : AluResult := adder (s.readGr s2) 0#32 true

/-- ADC0: adder(s2, 0, C) (R260, R264); GRsrc1 is ignored. -/
def adc0Result (s2 : RegIx) (s : State) : AluResult := adder (s.readGr s2) 0#32 s.flags.c

/-- DEC: adder(s2, 0xFFFFFFFF, 0) (R260, R265); GRsrc1 is ignored. -/
def decResult (s2 : RegIx) (s : State) : AluResult := adder (s.readGr s2) 0xFFFFFFFF#32 false

/-- DECC: adder(s2, 0xFFFFFFFF, C) (R260, R266); GRsrc1 is ignored. -/
def deccResult (s2 : RegIx) (s : State) : AluResult := adder (s.readGr s2) 0xFFFFFFFF#32 s.flags.c

/-- ADD: adder(s2, s1, 0) (R260, R267). -/
def addResult (s2 s1 : RegIx) (s : State) : AluResult := adder (s.readGr s2) (s.readGr s1) false

/-- ADDC: adder(s2, s1, C) (R260, R268). -/
def addcResult (s2 s1 : RegIx) (s : State) : AluResult := adder (s.readGr s2) (s.readGr s1) s.flags.c

/-- One multiplication step, MUL_STEP (R269, R270): open (log 14). `w` is the field W of the operation. -/
def multiplyStep (first : Bool) (w : BitVec 2) (s2 s1 d : RegIx) (s : State) : MulStep :=
  Config.mulStep first w (s.readGr s2) (s.readGr s1) (s.readGr d) s.flags

/-- A multiplication step with W = 01: GRdst takes the result, PSWR is not touched (R243, R269; log 14). -/
def mulW (first : Bool) (s2 s1 d : RegIx) (s : State) : Result OpEffect :=
  let m := multiplyStep first 0b01#2 s2 s1 d s
  .next { grs := (d, m.res) :: otherWrites m d, overflow := overflowRequested s.par.overflowIrq false m.flags.v }

/-- A multiplication step with W = 10: the flags are stored, no register is written (R243, R269; log 14). -/
def mulF (first : Bool) (s2 s1 d : RegIx) (s : State) : Result OpEffect :=
  let m := multiplyStep first 0b10#2 s2 s1 d s
  .next { flags := some m.flags, overflow := overflowRequested s.par.overflowIrq true m.flags.v }

/-- NEG: adder(0, ~s2, 1) (R260, R271); GRsrc1 is ignored. -/
def negResult (s2 : RegIx) (s : State) : AluResult := adder 0#32 (~~~(s.readGr s2)) true

/-- SUB.W (R261) with the transfer part `t` of its word. -/
def execSubW (s2 s1 d : RegIx) (t : Instr) (s : State) : Result State := runOp t (arithW (subResult s2 s1 s) d s) s

/-- SUB.F (R261) with the transfer part `t` of its word; GRdst is ignored (R243). -/
def execSubF (s2 s1 _d : RegIx) (t : Instr) (s : State) : Result State := runOp t (arithF (subResult s2 s1 s) s) s

/-- SUBC.W (R262) with the transfer part `t` of its word. -/
def execSubcW (s2 s1 d : RegIx) (t : Instr) (s : State) : Result State := runOp t (arithW (subcResult s2 s1 s) d s) s

/-- SUBC.F (R262) with the transfer part `t` of its word; GRdst is ignored (R243). -/
def execSubcF (s2 s1 _d : RegIx) (t : Instr) (s : State) : Result State := runOp t (arithF (subcResult s2 s1 s) s) s

/-- INC.W (R263) with the transfer part `t` of its word. -/
def execIncW (s2 _s1 d : RegIx) (t : Instr) (s : State) : Result State := runOp t (arithW (incResult s2 s) d s) s

/-- INC.F (R263) with the transfer part `t` of its word; GRdst is ignored (R243). -/
def execIncF (s2 _s1 _d : RegIx) (t : Instr) (s : State) : Result State := runOp t (arithF (incResult s2 s) s) s

/-- ADC0.W (R264) with the transfer part `t` of its word. -/
def execAdc0W (s2 _s1 d : RegIx) (t : Instr) (s : State) : Result State := runOp t (arithW (adc0Result s2 s) d s) s

/-- ADC0.F (R264) with the transfer part `t` of its word; GRdst is ignored (R243). -/
def execAdc0F (s2 _s1 _d : RegIx) (t : Instr) (s : State) : Result State := runOp t (arithF (adc0Result s2 s) s) s

/-- DEC.W (R265) with the transfer part `t` of its word. -/
def execDecW (s2 _s1 d : RegIx) (t : Instr) (s : State) : Result State := runOp t (arithW (decResult s2 s) d s) s

/-- DEC.F (R265) with the transfer part `t` of its word; GRdst is ignored (R243). -/
def execDecF (s2 _s1 _d : RegIx) (t : Instr) (s : State) : Result State := runOp t (arithF (decResult s2 s) s) s

/-- DECC.W (R266) with the transfer part `t` of its word. -/
def execDeccW (s2 _s1 d : RegIx) (t : Instr) (s : State) : Result State := runOp t (arithW (deccResult s2 s) d s) s

/-- DECC.F (R266) with the transfer part `t` of its word; GRdst is ignored (R243). -/
def execDeccF (s2 _s1 _d : RegIx) (t : Instr) (s : State) : Result State := runOp t (arithF (deccResult s2 s) s) s

/-- ADD.W (R267) with the transfer part `t` of its word. -/
def execAddW (s2 s1 d : RegIx) (t : Instr) (s : State) : Result State := runOp t (arithW (addResult s2 s1 s) d s) s

/-- ADD.F (R267) with the transfer part `t` of its word; GRdst is ignored (R243). -/
def execAddF (s2 s1 _d : RegIx) (t : Instr) (s : State) : Result State := runOp t (arithF (addResult s2 s1 s) s) s

/-- ADDC.W (R268) with the transfer part `t` of its word. -/
def execAddcW (s2 s1 d : RegIx) (t : Instr) (s : State) : Result State := runOp t (arithW (addcResult s2 s1 s) d s) s

/-- ADDC.F (R268) with the transfer part `t` of its word; GRdst is ignored (R243). -/
def execAddcF (s2 s1 _d : RegIx) (t : Instr) (s : State) : Result State := runOp t (arithF (addcResult s2 s1 s) s) s

/-- MULF.W (R269) with the transfer part `t` of its word. -/
def execMulfW (s2 s1 d : RegIx) (t : Instr) (s : State) : Result State := runOp t (mulW true s2 s1 d s) s

/-- MULF.F (R269) with the transfer part `t` of its word; GRdst is not written (R243). -/
def execMulfF (s2 s1 d : RegIx) (t : Instr) (s : State) : Result State := runOp t (mulF true s2 s1 d s) s

/-- MULS.W (R270) with the transfer part `t` of its word. -/
def execMulsW (s2 s1 d : RegIx) (t : Instr) (s : State) : Result State := runOp t (mulW false s2 s1 d s) s

/-- MULS.F (R270) with the transfer part `t` of its word; GRdst is not written (R243). -/
def execMulsF (s2 s1 d : RegIx) (t : Instr) (s : State) : Result State := runOp t (mulF false s2 s1 d s) s

/-- NEG.W (R271) with the transfer part `t` of its word. -/
def execNegW (s2 _s1 d : RegIx) (t : Instr) (s : State) : Result State := runOp t (arithW (negResult s2 s) d s) s

/-- NEG.F (R271) with the transfer part `t` of its word; GRdst is ignored (R243). -/
def execNegF (s2 _s1 _d : RegIx) (t : Instr) (s : State) : Result State := runOp t (arithF (negResult s2 s) s) s

/-- A reserved AOP code (R130 (d), R272). -/
def opReserved : Result OpEffect := .fault .illegalInstruction

/-- AOP = 101x: `raise IllegalInstruction`, whatever W is (R272, R316). -/
def execReservedAop101x (_w : BitVec 2) (_x : Bool) (_s2 _s1 _d : RegIx) (t : Instr) (s : State) : Result State :=
  runOp t opReserved s

/-- AOP = 11x1: `raise IllegalInstruction`, whatever W is (R272, R316). -/
def execReservedAop11x1 (_w : BitVec 2) (_x : Bool) (_s2 _s1 _d : RegIx) (t : Instr) (s : State) : Result State :=
  runOp t opReserved s

/-- AOP = 111x: `raise IllegalInstruction`, whatever W is (R272, R316). -/
def execReservedAop111x (_w : BitVec 2) (_s2 _s1 _d : RegIx) (t : Instr) (s : State) : Result State :=
  runOp t opReserved s

/-- The result of the arithmetical operation with code `aop` (R260); none for the reserved codes (R272) and for the
multiplication steps, which are no pass through the adder (R253). -/
def aopResult (aop : BitVec 4) (s2 s1 : RegIx) (s : State) : Option AluResult :=
  match aop with
  | 0b0000#4 => some (subResult s2 s1 s)
  | 0b0001#4 => some (subcResult s2 s1 s)
  | 0b0010#4 => some (incResult s2 s)
  | 0b0011#4 => some (adc0Result s2 s)
  | 0b0100#4 => some (decResult s2 s)
  | 0b0101#4 => some (deccResult s2 s)
  | 0b0110#4 => some (addResult s2 s1 s)
  | 0b0111#4 => some (addcResult s2 s1 s)
  | 0b1100#4 => some (negResult s2 s)
  | _ => none

/-- W = 11 under W11_MODE = both (R244): GRdst takes the result and the flags are stored. -/
def bothEffect (r : AluResult) (arith : Bool) (d : RegIx) (s : State) : OpEffect :=
  { grs := [(d, r.res)], flags := some r.flags, draws := !arith,
    overflow := arith && overflowRequested s.par.overflowIrq true r.v }

/-- A multiplication step with W = 11 under W11_MODE = both (R244, R269; log 14). -/
def mulBoth (first : Bool) (s2 s1 d : RegIx) (s : State) : OpEffect :=
  let m := multiplyStep first 0b11#2 s2 s1 d s
  { grs := (d, m.res) :: otherWrites m d, flags := some m.flags,
    overflow := overflowRequested s.par.overflowIrq true m.flags.v }

/-- What W = 11 does under W11_MODE = both (R244); none for the reserved AOP codes. -/
def w11Effect (arith : Bool) (code : BitVec 4) (s2 s1 d : RegIx) (s : State) : Option OpEffect :=
  match arith, code with
  | false, _ => some (bothEffect (logicalResult s.par code (s.readGr s2) (s.readGr s1) s.draws) false d s)
  | true, 0b1000#4 => some (mulBoth true s2 s1 d s)
  | true, 0b1001#4 => some (mulBoth false s2 s1 d s)
  | true, _ => (aopResult code s2 s1 s).map fun r => bothEffect r true d s

/-- W = 11, the OP part (R244): refused or both, by W11_MODE (log 11); the reserved AOP codes stay reserved (R272). -/
def opW11 (arith : Bool) (code : BitVec 4) (s2 s1 d : RegIx) (s : State) : Result OpEffect :=
  match w11Effect arith code s2 s1 d s with
  | none => .fault .illegalInstruction
  | some o =>
    match s.par.w11Mode with
    | .refuse => .refused .undefinedW
    | .both => .next o

/-- W = 11 (R244) with the transfer part `t` of its word. -/
def execW11 (arith : Bool) (code : BitVec 4) (s2 s1 d : RegIx) (t : Instr) (s : State) : Result State :=
  runOp t (opW11 arith code s2 s1 d s) s

end Sys2Proof.Machine
end

