-- ==== Sys2Proof/Machine/Logical.lean ====
section
/-!
DEFINITION. The logical operations LOG.0 to LOG.15, W = 01 and W = 10 (44_alu_op.md R258, R259).
-/

namespace Sys2Proof.Machine

/-- LOG.k with W = 01 (R258): GRdst takes the result, no flag is stored. -/
def logicalW (code : BitVec 4) (s2 s1 d : RegIx) (s : State) : Result OpEffect :=
  .next { grs := [(d, (logicalResult s.par code (s.readGr s2) (s.readGr s1) s.draws).res)] }

/-- LOG.k with W = 10 (R258): N and Z of the result are stored, C and V become free values; no register is written. -/
def logicalF (code : BitVec 4) (s2 s1 : RegIx) (s : State) : Result OpEffect :=
  .next { flags := some (logicalResult s.par code (s.readGr s2) (s.readGr s1) s.draws).flags, draws := true }

/-- LOG.0.W (R258) with the transfer part `t` of its word. -/
def execLog0W (s2 s1 d : RegIx) (t : Instr) (s : State) : Result State := runOp t (logicalW 0#4 s2 s1 d s) s

/-- LOG.0.F (R258) with the transfer part `t` of its word; GRdst is ignored (R243). -/
def execLog0F (s2 s1 _d : RegIx) (t : Instr) (s : State) : Result State := runOp t (logicalF 0#4 s2 s1 s) s

/-- LOG.1.W (R258) with the transfer part `t` of its word. -/
def execLog1W (s2 s1 d : RegIx) (t : Instr) (s : State) : Result State := runOp t (logicalW 1#4 s2 s1 d s) s

/-- LOG.1.F (R258) with the transfer part `t` of its word; GRdst is ignored (R243). -/
def execLog1F (s2 s1 _d : RegIx) (t : Instr) (s : State) : Result State := runOp t (logicalF 1#4 s2 s1 s) s

/-- LOG.2.W (R258) with the transfer part `t` of its word. -/
def execLog2W (s2 s1 d : RegIx) (t : Instr) (s : State) : Result State := runOp t (logicalW 2#4 s2 s1 d s) s

/-- LOG.2.F (R258) with the transfer part `t` of its word; GRdst is ignored (R243). -/
def execLog2F (s2 s1 _d : RegIx) (t : Instr) (s : State) : Result State := runOp t (logicalF 2#4 s2 s1 s) s

/-- LOG.3.W (R258) with the transfer part `t` of its word. -/
def execLog3W (s2 s1 d : RegIx) (t : Instr) (s : State) : Result State := runOp t (logicalW 3#4 s2 s1 d s) s

/-- LOG.3.F (R258) with the transfer part `t` of its word; GRdst is ignored (R243). -/
def execLog3F (s2 s1 _d : RegIx) (t : Instr) (s : State) : Result State := runOp t (logicalF 3#4 s2 s1 s) s

/-- LOG.4.W (R258) with the transfer part `t` of its word. -/
def execLog4W (s2 s1 d : RegIx) (t : Instr) (s : State) : Result State := runOp t (logicalW 4#4 s2 s1 d s) s

/-- LOG.4.F (R258) with the transfer part `t` of its word; GRdst is ignored (R243). -/
def execLog4F (s2 s1 _d : RegIx) (t : Instr) (s : State) : Result State := runOp t (logicalF 4#4 s2 s1 s) s

/-- LOG.5.W (R258) with the transfer part `t` of its word. -/
def execLog5W (s2 s1 d : RegIx) (t : Instr) (s : State) : Result State := runOp t (logicalW 5#4 s2 s1 d s) s

/-- LOG.5.F (R258) with the transfer part `t` of its word; GRdst is ignored (R243). -/
def execLog5F (s2 s1 _d : RegIx) (t : Instr) (s : State) : Result State := runOp t (logicalF 5#4 s2 s1 s) s

/-- LOG.6.W (R258) with the transfer part `t` of its word. -/
def execLog6W (s2 s1 d : RegIx) (t : Instr) (s : State) : Result State := runOp t (logicalW 6#4 s2 s1 d s) s

/-- LOG.6.F (R258) with the transfer part `t` of its word; GRdst is ignored (R243). -/
def execLog6F (s2 s1 _d : RegIx) (t : Instr) (s : State) : Result State := runOp t (logicalF 6#4 s2 s1 s) s

/-- LOG.7.W (R258) with the transfer part `t` of its word. -/
def execLog7W (s2 s1 d : RegIx) (t : Instr) (s : State) : Result State := runOp t (logicalW 7#4 s2 s1 d s) s

/-- LOG.7.F (R258) with the transfer part `t` of its word; GRdst is ignored (R243). -/
def execLog7F (s2 s1 _d : RegIx) (t : Instr) (s : State) : Result State := runOp t (logicalF 7#4 s2 s1 s) s

/-- LOG.8.W (R258) with the transfer part `t` of its word. -/
def execLog8W (s2 s1 d : RegIx) (t : Instr) (s : State) : Result State := runOp t (logicalW 8#4 s2 s1 d s) s

/-- LOG.8.F (R258) with the transfer part `t` of its word; GRdst is ignored (R243). -/
def execLog8F (s2 s1 _d : RegIx) (t : Instr) (s : State) : Result State := runOp t (logicalF 8#4 s2 s1 s) s

/-- LOG.9.W (R258) with the transfer part `t` of its word. -/
def execLog9W (s2 s1 d : RegIx) (t : Instr) (s : State) : Result State := runOp t (logicalW 9#4 s2 s1 d s) s

/-- LOG.9.F (R258) with the transfer part `t` of its word; GRdst is ignored (R243). -/
def execLog9F (s2 s1 _d : RegIx) (t : Instr) (s : State) : Result State := runOp t (logicalF 9#4 s2 s1 s) s

/-- LOG.10.W (R258) with the transfer part `t` of its word. -/
def execLog10W (s2 s1 d : RegIx) (t : Instr) (s : State) : Result State := runOp t (logicalW 10#4 s2 s1 d s) s

/-- LOG.10.F (R258) with the transfer part `t` of its word; GRdst is ignored (R243). -/
def execLog10F (s2 s1 _d : RegIx) (t : Instr) (s : State) : Result State := runOp t (logicalF 10#4 s2 s1 s) s

/-- LOG.11.W (R258) with the transfer part `t` of its word. -/
def execLog11W (s2 s1 d : RegIx) (t : Instr) (s : State) : Result State := runOp t (logicalW 11#4 s2 s1 d s) s

/-- LOG.11.F (R258) with the transfer part `t` of its word; GRdst is ignored (R243). -/
def execLog11F (s2 s1 _d : RegIx) (t : Instr) (s : State) : Result State := runOp t (logicalF 11#4 s2 s1 s) s

/-- LOG.12.W (R258) with the transfer part `t` of its word. -/
def execLog12W (s2 s1 d : RegIx) (t : Instr) (s : State) : Result State := runOp t (logicalW 12#4 s2 s1 d s) s

/-- LOG.12.F (R258) with the transfer part `t` of its word; GRdst is ignored (R243). -/
def execLog12F (s2 s1 _d : RegIx) (t : Instr) (s : State) : Result State := runOp t (logicalF 12#4 s2 s1 s) s

/-- LOG.13.W (R258) with the transfer part `t` of its word. -/
def execLog13W (s2 s1 d : RegIx) (t : Instr) (s : State) : Result State := runOp t (logicalW 13#4 s2 s1 d s) s

/-- LOG.13.F (R258) with the transfer part `t` of its word; GRdst is ignored (R243). -/
def execLog13F (s2 s1 _d : RegIx) (t : Instr) (s : State) : Result State := runOp t (logicalF 13#4 s2 s1 s) s

/-- LOG.14.W (R258) with the transfer part `t` of its word. -/
def execLog14W (s2 s1 d : RegIx) (t : Instr) (s : State) : Result State := runOp t (logicalW 14#4 s2 s1 d s) s

/-- LOG.14.F (R258) with the transfer part `t` of its word; GRdst is ignored (R243). -/
def execLog14F (s2 s1 _d : RegIx) (t : Instr) (s : State) : Result State := runOp t (logicalF 14#4 s2 s1 s) s

/-- LOG.15.W (R258) with the transfer part `t` of its word. -/
def execLog15W (s2 s1 d : RegIx) (t : Instr) (s : State) : Result State := runOp t (logicalW 15#4 s2 s1 d s) s

/-- LOG.15.F (R258) with the transfer part `t` of its word; GRdst is ignored (R243). -/
def execLog15F (s2 s1 _d : RegIx) (t : Instr) (s : State) : Result State := runOp t (logicalF 15#4 s2 s1 s) s

end Sys2Proof.Machine
end

