-- ==== Sys2Proof/Machine/Shift.lean ====
section
/-!
DEFINITION. The shift operations ROT, LSH, ASH, LSHC (44_alu_op.md R245 to R257).
-/

namespace Sys2Proof.Machine

/-- What a shift does with its result (R245): it writes GRdst; under SHIFT_FLAGS = store it also stores N and Z of the result,
and C and V are left open. -/
def shiftEffect (res : Word) (dst : RegIx) (s : State) : OpEffect :=
  match s.par.shiftFlags with
  | .none => { grs := [(dst, res)] }
  | .store =>
    { grs := [(dst, res)], draws := true,
      flags := some
        (AluResult.flags { res := res, c := Config.undefinedC s.draws, v := Config.undefinedV s.draws }) }

/-- A shift by what SHIFT_DECODE makes of the count field (R246, R247). -/
def shiftBy (f : Word → Dir → Nat → Word) (count : BitVec 6) (src dst : RegIx) (s : State) : OpEffect :=
  shiftEffect (f (s.readGr src) (shiftDecode s.par count).1 (shiftDecode s.par count).2.val) dst s

/-- ROT, the OP part (R254); the null OP is neither a read nor a write (R248). -/
def opRot (count : BitVec 6) (src dst : RegIx) (s : State) : Result OpEffect :=
  if isNullRot count src dst then nullOp else .next (shiftBy rotate count src dst s)

/-- LSH, the OP part (R255). -/
def opLsh (count : BitVec 6) (src dst : RegIx) (s : State) : Result OpEffect := .next (shiftBy shiftLogical count src dst s)

/-- ASH, the OP part (R256). -/
def opAsh (count : BitVec 6) (src dst : RegIx) (s : State) : Result OpEffect :=
  .next (shiftBy shiftArithmetical count src dst s)

/-- LSHC, the OP part (R257): a copy for a zero count, refused for any other. R257 says that no flag is stored, as R254 to R256
say it of the other shifts, and R245 that SHIFT_FLAGS = store stores them: under `store` the model lets R245 hold for LSHC as
for the others (DESIGN CHOICE: log 43). -/
def opLshc (count : BitVec 6) (src dst : RegIx) (s : State) : Result OpEffect :=
  if count = 0#6 then .next (shiftEffect (s.readGr src) dst s) else .refused .shiftThroughCarry

/-- ROT (R254) with the transfer part `t` of its word. -/
def execRot (count : BitVec 6) (src dst : RegIx) (t : Instr) (s : State) : Result State :=
  runOp t (opRot count src dst s) s

/-- LSH (R255) with the transfer part `t` of its word. -/
def execLsh (count : BitVec 6) (src dst : RegIx) (t : Instr) (s : State) : Result State :=
  runOp t (opLsh count src dst s) s

/-- ASH (R256) with the transfer part `t` of its word. -/
def execAsh (count : BitVec 6) (src dst : RegIx) (t : Instr) (s : State) : Result State :=
  runOp t (opAsh count src dst s) s

/-- LSHC (R257) with the transfer part `t` of its word. -/
def execLshc (count : BitVec 6) (src dst : RegIx) (t : Instr) (s : State) : Result State :=
  runOp t (opLshc count src dst s) s

end Sys2Proof.Machine
end

