-- ==== Sys2Proof/Machine/Dispatch.lean ====
section
/-!
DEFINITION. One arm per instruction: the meaning of each constructor of Instr.
-/

namespace Sys2Proof.Machine

def exec (i : Instr) (s : State) : Host.Outcome State Fault Refusal :=
  match i with
  | .reservedAm011 p store ix r => Sys2Proof.Machine.execReservedAm011 p store ix r s
  | .ldR p am ix r => Sys2Proof.Machine.execLdR p am ix r s
  | .stR p am ix r => Sys2Proof.Machine.execStR p am ix r s
  | .reservedAmc11 p store ix r k => Sys2Proof.Machine.execReservedAmc11 p store ix r k s
  | .ldI p amc ix r k => Sys2Proof.Machine.execLdI p amc ix r k s
  | .stI p amc ix r k => Sys2Proof.Machine.execStI p amc ix r k s
  | .mov p rd rs => Sys2Proof.Machine.execMov p rd rs s
  | .pswrSet p k => Sys2Proof.Machine.execPswrSet p k s
  | .pswrRst p k => Sys2Proof.Machine.execPswrRst p k s
  | .ldc p rd k => Sys2Proof.Machine.execLdc p rd k s
  | .reservedRmc11 p ix j k => Sys2Proof.Machine.execReservedRmc11 p ix j k s
  | .armI p rmc ix j k => Sys2Proof.Machine.execArmI p rmc ix j k s
  | .nopI p k => Sys2Proof.Machine.execNopI p k s
  | .jmpI p pmc ix cond k => Sys2Proof.Machine.execJmpI p pmc ix cond k s
  | .callI p pmc ix cond k => Sys2Proof.Machine.execCallI p pmc ix cond k s
  | .reserved100 p a b k => Sys2Proof.Machine.execReserved100 p a b k s
  | .reservedRm11 p ix j => Sys2Proof.Machine.execReservedRm11 p ix j s
  | .armR p rm ix j => Sys2Proof.Machine.execArmR p rm ix j s
  | .nopR p => Sys2Proof.Machine.execNopR p s
  | .reserved101 p bits => Sys2Proof.Machine.execReserved101 p bits s
  | .jmpR p pm ix cond => Sys2Proof.Machine.execJmpR p pm ix cond s
  | .callR p pm ix cond => Sys2Proof.Machine.execCallR p pm ix cond s
  | .ret p cond => Sys2Proof.Machine.execRet p cond s
  | .iret p cond => Sys2Proof.Machine.execIret p cond s
  | .reserved000 p bits => Sys2Proof.Machine.execReserved000 p bits s
  | .udi p bits => Sys2Proof.Machine.execUdi p bits s
  | .rot count src dst t => Sys2Proof.Machine.execRot count src dst t s
  | .lsh count src dst t => Sys2Proof.Machine.execLsh count src dst t s
  | .ash count src dst t => Sys2Proof.Machine.execAsh count src dst t s
  | .lshc count src dst t => Sys2Proof.Machine.execLshc count src dst t s
  | .reservedAop101x w x s2 s1 d t => Sys2Proof.Machine.execReservedAop101x w x s2 s1 d t s
  | .reservedAop11x1 w x s2 s1 d t => Sys2Proof.Machine.execReservedAop11x1 w x s2 s1 d t s
  | .reservedAop111x w s2 s1 d t => Sys2Proof.Machine.execReservedAop111x w s2 s1 d t s
  | .w11 arith code s2 s1 d t => Sys2Proof.Machine.execW11 arith code s2 s1 d t s
  | .log0W s2 s1 d t => Sys2Proof.Machine.execLog0W s2 s1 d t s
  | .log0F s2 s1 d t => Sys2Proof.Machine.execLog0F s2 s1 d t s
  | .log1W s2 s1 d t => Sys2Proof.Machine.execLog1W s2 s1 d t s
  | .log1F s2 s1 d t => Sys2Proof.Machine.execLog1F s2 s1 d t s
  | .log2W s2 s1 d t => Sys2Proof.Machine.execLog2W s2 s1 d t s
  | .log2F s2 s1 d t => Sys2Proof.Machine.execLog2F s2 s1 d t s
  | .log3W s2 s1 d t => Sys2Proof.Machine.execLog3W s2 s1 d t s
  | .log3F s2 s1 d t => Sys2Proof.Machine.execLog3F s2 s1 d t s
  | .log4W s2 s1 d t => Sys2Proof.Machine.execLog4W s2 s1 d t s
  | .log4F s2 s1 d t => Sys2Proof.Machine.execLog4F s2 s1 d t s
  | .log5W s2 s1 d t => Sys2Proof.Machine.execLog5W s2 s1 d t s
  | .log5F s2 s1 d t => Sys2Proof.Machine.execLog5F s2 s1 d t s
  | .log6W s2 s1 d t => Sys2Proof.Machine.execLog6W s2 s1 d t s
  | .log6F s2 s1 d t => Sys2Proof.Machine.execLog6F s2 s1 d t s
  | .log7W s2 s1 d t => Sys2Proof.Machine.execLog7W s2 s1 d t s
  | .log7F s2 s1 d t => Sys2Proof.Machine.execLog7F s2 s1 d t s
  | .log8W s2 s1 d t => Sys2Proof.Machine.execLog8W s2 s1 d t s
  | .log8F s2 s1 d t => Sys2Proof.Machine.execLog8F s2 s1 d t s
  | .log9W s2 s1 d t => Sys2Proof.Machine.execLog9W s2 s1 d t s
  | .log9F s2 s1 d t => Sys2Proof.Machine.execLog9F s2 s1 d t s
  | .log10W s2 s1 d t => Sys2Proof.Machine.execLog10W s2 s1 d t s
  | .log10F s2 s1 d t => Sys2Proof.Machine.execLog10F s2 s1 d t s
  | .log11W s2 s1 d t => Sys2Proof.Machine.execLog11W s2 s1 d t s
  | .log11F s2 s1 d t => Sys2Proof.Machine.execLog11F s2 s1 d t s
  | .log12W s2 s1 d t => Sys2Proof.Machine.execLog12W s2 s1 d t s
  | .log12F s2 s1 d t => Sys2Proof.Machine.execLog12F s2 s1 d t s
  | .log13W s2 s1 d t => Sys2Proof.Machine.execLog13W s2 s1 d t s
  | .log13F s2 s1 d t => Sys2Proof.Machine.execLog13F s2 s1 d t s
  | .log14W s2 s1 d t => Sys2Proof.Machine.execLog14W s2 s1 d t s
  | .log14F s2 s1 d t => Sys2Proof.Machine.execLog14F s2 s1 d t s
  | .log15W s2 s1 d t => Sys2Proof.Machine.execLog15W s2 s1 d t s
  | .log15F s2 s1 d t => Sys2Proof.Machine.execLog15F s2 s1 d t s
  | .subW s2 s1 d t => Sys2Proof.Machine.execSubW s2 s1 d t s
  | .subF s2 s1 d t => Sys2Proof.Machine.execSubF s2 s1 d t s
  | .subcW s2 s1 d t => Sys2Proof.Machine.execSubcW s2 s1 d t s
  | .subcF s2 s1 d t => Sys2Proof.Machine.execSubcF s2 s1 d t s
  | .incW s2 s1 d t => Sys2Proof.Machine.execIncW s2 s1 d t s
  | .incF s2 s1 d t => Sys2Proof.Machine.execIncF s2 s1 d t s
  | .adc0W s2 s1 d t => Sys2Proof.Machine.execAdc0W s2 s1 d t s
  | .adc0F s2 s1 d t => Sys2Proof.Machine.execAdc0F s2 s1 d t s
  | .decW s2 s1 d t => Sys2Proof.Machine.execDecW s2 s1 d t s
  | .decF s2 s1 d t => Sys2Proof.Machine.execDecF s2 s1 d t s
  | .deccW s2 s1 d t => Sys2Proof.Machine.execDeccW s2 s1 d t s
  | .deccF s2 s1 d t => Sys2Proof.Machine.execDeccF s2 s1 d t s
  | .addW s2 s1 d t => Sys2Proof.Machine.execAddW s2 s1 d t s
  | .addF s2 s1 d t => Sys2Proof.Machine.execAddF s2 s1 d t s
  | .addcW s2 s1 d t => Sys2Proof.Machine.execAddcW s2 s1 d t s
  | .addcF s2 s1 d t => Sys2Proof.Machine.execAddcF s2 s1 d t s
  | .mulfW s2 s1 d t => Sys2Proof.Machine.execMulfW s2 s1 d t s
  | .mulfF s2 s1 d t => Sys2Proof.Machine.execMulfF s2 s1 d t s
  | .mulsW s2 s1 d t => Sys2Proof.Machine.execMulsW s2 s1 d t s
  | .mulsF s2 s1 d t => Sys2Proof.Machine.execMulsF s2 s1 d t s
  | .negW s2 s1 d t => Sys2Proof.Machine.execNegW s2 s1 d t s
  | .negF s2 s1 d t => Sys2Proof.Machine.execNegF s2 s1 d t s

end Sys2Proof.Machine
end

