-- ==== Sys2Proof/Machine/Sequence.lean ====
section
/-!
DEFINITION. What a step does around an instruction: the inputs of the other agents, the choice of an interrupt (R309), the
fetch (R66, R78), and moving on to the next word with the delay slots (R126).
-/

namespace Sys2Proof.Machine

/-! ### The other agents (R306, R330, R336; log 26, 27, 28) -/

/-- The interrupt that an asynchronous source requests. -/
def AsyncIrq.irq : AsyncIrq → Irq
  | .timer0 => .timer0
  | .external => .external
  | .dmaIn1 => .dmaIn1
  | .dmaIn0 => .dmaIn0
  | .dmaOut1 => .dmaOut1
  | .dmaOut0 => .dmaOut0
  | .timer1 => .timer1

/-- A word the DMA co-processor stores, which is no launch code from then on (R78); where MEM_MAP has no plain memory it changes
nothing (log 40). -/
def State.dmaStore (s : State) (a v : Word) : State :=
  if memKindAt s.par.memMap a.toNat = some .plain then s.setWord a v else s

/-- Whether the parameters have the agent of an action: a request of a timer is the environment's to make while TIMER_MODEL
leaves the timers to it (R330), and the DMA co-processor acts unless DMA_MODEL is `none` (R336). -/
def admits (par : Params) (x : Input) : Bool :=
  match x with
  | .request .external => true
  | .request .timer0 | .request .timer1 => timersFree par.timerModel
  | _ => par.dmaModel == .agent

/-- One action of another agent. A 64-bit store of the DMA co-processor is two stores of a word, so that where only one of its
words is plain memory that word alone is stored (DESIGN CHOICE: log 40). -/
def act (s : State) (x : Input) : State :=
  match x with
  | .request q => s.raise (AsyncIrq.irq q)
  | .dmaStoreWord a v => s.dmaStore a v
  | .dmaStorePair a v => (s.dmaStore (evenWord a) (v.extractLsb' 0 32)).dmaStore (oddWord a) (v.extractLsb' 32 32)
  | .dmaChannel c regs => s.setChannel c regs
  | .dmaRequests bits => { s with dmaRequests := bits }

/-- One action of another agent, if there is that agent. -/
def applyInput (s : State) (x : Input) : State := if admits s.par x then act s x else s

/-- The inputs of this step boundary taken. -/
def State.takeInputs (s : State) : State :=
  match s.inputs with
  | [] => s
  | now :: later => now.foldl applyInput { s with inputs := later }

/-- A timer that is a definite counter moves on (R330; log 26): its new value, and whether it requests its interrupt. -/
def tickCounter (c : TimerCounter) (pswr v : Word) : Word × Bool :=
  if !pswrHolds c.runs pswr || (c.singleStops && v == c.expiry && !pswrHolds c.periodical pswr) then (v, false)
  else if v + c.step = c.expiry then (if pswrHolds c.periodical pswr then c.reload else c.expiry, true)
  else (v + c.step, false)

/-- The interrupt of a timer (R301). -/
def timerIrq : Timer → Irq
  | .t0 => .timer0
  | .t1 => .timer1

/-- One timer moved on. -/
def State.tick (s : State) (t : Timer) (c : TimerCounter) : State :=
  if (tickCounter c s.pswr (s.timer t)).2 then (s.setTimer t (tickCounter c s.pswr (s.timer t)).1).raise (timerIrq t)
  else s.setTimer t (tickCounter c s.pswr (s.timer t)).1

/-- The timers move on where TIMER_MODEL makes them counters (R330). -/
def State.tickTimers (s : State) : State :=
  match s.par.timerModel with
  | .environment => s
  | .counters c0 c1 => (s.tick .t0 c0).tick .t1 c1

/-- What the other agents do at this step boundary: the inputs, then the timers. -/
def State.agentsAct (s : State) : State := s.takeInputs.tickTimers

/-! ### Taking an interrupt (R303, R304, R309) -/

/-- `irq_enabled(PSWR, n)` (R303): the parameter's (log 20). -/
def State.irqEnabled (s : State) (n : Irq) : Bool := pswrHolds (s.par.irqPredicates[(Irq.row n).val]) s.pswr

/-- The pending and enabled interrupt of highest priority (R304). -/
def State.enabledIrq (s : State) : Option Irq := irqOrder.find? fun n => s.req n && s.irqEnabled n

/-- The points at which an interrupt can be taken (R309): between fetch words, outside delay slots. -/
def State.irqPoint (s : State) : Bool := !s.slot && s.pending.isNone

/-- Whether an interrupt is taken now (R309), and the state with the wait kept up to date. At a point where one can be taken and
a request is enabled, the wait is drawn, unless one is running; the interrupt is taken when the wait is over. So it is taken
after finitely many such points, and the hardware's choice is free (log 21). -/
def irqDecision (s : State) : Option Irq × State :=
  if s.irqPoint then
    match s.enabledIrq with
    | none => (none, { s with irqWait := none })
    | some n =>
      let drawn := s.irqWait.isNone
      let wait := s.irqWait.getD (Config.irqLatency s.draws)
      match wait with
      | 0 => (some n, { s.advanceDraws drawn with irqWait := none })
      | k + 1 => (none, { s.advanceDraws drawn with irqWait := some k })
  else (none, s)

/-! ### The fetch -/

/-- Whether the core or the DMA co-processor has stored to a word of the fetch word at PC (R78). -/
def State.codeStored (s : State) : Bool :=
  s.stored.contains (evenWord s.pc).toNat || s.stored.contains (oddWord s.pc).toNat

/-- `Fetch(PC)` (R66); what has been stored to is no code of the launch memory and is refused (R78, R362; log 29). -/
def State.fetch (s : State) : Result DWord :=
  andThen (s.memRead s.pc true) fun f => if s.codeStored then .refused .selfModifiedCode else .next f

/-! ### Moving on (R126) -/

/-- `word_done` of R126: a long instruction, the high half, or a transfer decided without rest_of_word. -/
def wordDone (long : Bool) (before after : State) : Bool :=
  long || before.slot || (before.pending.isNone && after.pending.isSome && !after.par.delayRestOfWord)

/-- The end of a fetch word (R126): PC moves by 2, modulo 2^32 (R25, R27), or a transfer whose delay is over takes effect. -/
def State.nextWord (s : State) : State :=
  match s.pending with
  | none => { s with slot := false, pc := s.pc + 2#32 }
  | some { target := t, words := 0 } => { s with slot := false, pc := t, pending := none }
  | some { target := t, words := n + 1 } =>
    { s with slot := false, pc := s.pc + 2#32, pending := some { target := t, words := n } }

/-- The lines of R126 after `execute I`. -/
def advance (long : Bool) (before after : State) : State :=
  if wordDone long before after then after.nextWord else { after with slot := true }

/-- TRACE_MODE (R318): the predicate on PSWR as the instruction leaves it requests interrupt 10 (log 25). -/
def State.traced (s : State) : State :=
  match s.par.traceMode with
  | .off => s
  | .predicate on => if pswrHolds on s.pswr then s.raise .trace else s

/-- What a step does after the instruction: moving on, then the trace. -/
def afterInstr (long : Bool) (before after : State) : State := (advance long before after).traced

/-- One instruction fetched and executed (R126 without its first line). -/
def runInstr (s : State) : Result State :=
  andThen s.fetch fun f =>
    match decodeFetch f s.slot with
    | none => .refused .longInHighHalf
    | some i => andThen (exec i s) fun s' => .next (afterInstr (isLongWord (fetchedWord f s.slot)) s s')

/-- One step (R126): the other agents act, then an interrupt is entered or an instruction is executed. -/
def stepOnce (s : State) : Result State :=
  match irqDecision s.agentsAct with
  | (some n, s') => enterInterrupt n s'
  | (none, s') => runInstr s'

/-- A fetch word placed at PC from outside, as code of the launch memory: nothing has stored to it, and the next step
executes its low half. -/
def State.placeFetchWord (s : State) (f : DWord) : State :=
  { s with
    mem := Memory.write (Memory.write s.mem (evenWord s.pc).toNat (f.extractLsb' 0 32)) (oddWord s.pc).toNat
      (f.extractLsb' 32 32)
    stored := s.stored.filter fun a => a != (evenWord s.pc).toNat && a != (oddWord s.pc).toNat
    slot := false }

end Sys2Proof.Machine
end

