-- ==== Sys2Proof/Machine/Step.lean ====
section
/-!
DEFINITION. The machine's step, and how an instruction is placed where the next step fetches it.
-/

namespace Sys2Proof.Machine

/-- One step of the machine (R126). -/
def step (s : State) : Host.Outcome State Fault Refusal := stepOnce s

/-- The state with the instruction whose bits are `w` stored at PC, where `step` fetches its next instruction (log 8). -/
def State.withFetchWord (s : State) (nbits w : Nat) : State := s.placeFetchWord (tableFetchWord nbits w)

end Sys2Proof.Machine
end

