-- ==== Sys2Proof/Safety.lean ====
section
/-!
DEFINITION. The terms claims use: the invariant of the representation, runs of steps, the premises under which an instruction
runs, and the parts of an instruction word.
-/

namespace Sys2Proof

/-- The transfer part of a word: what an OP row carries, or the transfer row itself. -/
def Instr.transferOf : Instr → Instr
  | .rot _ _ _ t => t
  | .lsh _ _ _ t => t
  | .ash _ _ _ t => t
  | .lshc _ _ _ t => t
  | .reservedAop101x _ _ _ _ _ t => t
  | .reservedAop11x1 _ _ _ _ _ t => t
  | .reservedAop111x _ _ _ _ t => t
  | .w11 _ _ _ _ _ t => t
  | .log0W _ _ _ t => t
  | .log0F _ _ _ t => t
  | .log1W _ _ _ t => t
  | .log1F _ _ _ t => t
  | .log2W _ _ _ t => t
  | .log2F _ _ _ t => t
  | .log3W _ _ _ t => t
  | .log3F _ _ _ t => t
  | .log4W _ _ _ t => t
  | .log4F _ _ _ t => t
  | .log5W _ _ _ t => t
  | .log5F _ _ _ t => t
  | .log6W _ _ _ t => t
  | .log6F _ _ _ t => t
  | .log7W _ _ _ t => t
  | .log7F _ _ _ t => t
  | .log8W _ _ _ t => t
  | .log8F _ _ _ t => t
  | .log9W _ _ _ t => t
  | .log9F _ _ _ t => t
  | .log10W _ _ _ t => t
  | .log10F _ _ _ t => t
  | .log11W _ _ _ t => t
  | .log11F _ _ _ t => t
  | .log12W _ _ _ t => t
  | .log12F _ _ _ t => t
  | .log13W _ _ _ t => t
  | .log13F _ _ _ t => t
  | .log14W _ _ _ t => t
  | .log14F _ _ _ t => t
  | .log15W _ _ _ t => t
  | .log15F _ _ _ t => t
  | .subW _ _ _ t => t
  | .subF _ _ _ t => t
  | .subcW _ _ _ t => t
  | .subcF _ _ _ t => t
  | .incW _ _ _ t => t
  | .incF _ _ _ t => t
  | .adc0W _ _ _ t => t
  | .adc0F _ _ _ t => t
  | .decW _ _ _ t => t
  | .decF _ _ _ t => t
  | .deccW _ _ _ t => t
  | .deccF _ _ _ t => t
  | .addW _ _ _ t => t
  | .addF _ _ _ t => t
  | .addcW _ _ _ t => t
  | .addcF _ _ _ t => t
  | .mulfW _ _ _ t => t
  | .mulfF _ _ _ t => t
  | .mulsW _ _ _ t => t
  | .mulsF _ _ _ t => t
  | .negW _ _ _ t => t
  | .negF _ _ _ t => t
  | .reservedAm011 p store i r => .reservedAm011 p store i r
  | .ldR p am i r => .ldR p am i r
  | .stR p am i r => .stR p am i r
  | .reservedAmc11 p store i r k => .reservedAmc11 p store i r k
  | .ldI p amc i r k => .ldI p amc i r k
  | .stI p amc i r k => .stI p amc i r k
  | .mov p rd rs => .mov p rd rs
  | .pswrSet p k => .pswrSet p k
  | .pswrRst p k => .pswrRst p k
  | .ldc p rd k => .ldc p rd k
  | .reservedRmc11 p i j k => .reservedRmc11 p i j k
  | .armI p rmc i j k => .armI p rmc i j k
  | .nopI p k => .nopI p k
  | .jmpI p pmc i cond k => .jmpI p pmc i cond k
  | .callI p pmc i cond k => .callI p pmc i cond k
  | .reserved100 p a b k => .reserved100 p a b k
  | .reservedRm11 p i j => .reservedRm11 p i j
  | .armR p rm i j => .armR p rm i j
  | .nopR p => .nopR p
  | .reserved101 p bits => .reserved101 p bits
  | .jmpR p pm i cond => .jmpR p pm i cond
  | .callR p pm i cond => .callR p pm i cond
  | .ret p cond => .ret p cond
  | .iret p cond => .iret p cond
  | .reserved000 p bits => .reserved000 p bits
  | .udi p bits => .udi p bits

/-- The OP part of a word alone: the same word with NOP.R in the place of its transfer part; for a transfer row, NOP.R. -/
def Instr.opAlone : Instr → Instr
  | .rot count src dst t => .rot count src dst (.nopR (Machine.parallelOf t))
  | .lsh count src dst t => .lsh count src dst (.nopR (Machine.parallelOf t))
  | .ash count src dst t => .ash count src dst (.nopR (Machine.parallelOf t))
  | .lshc count src dst t => .lshc count src dst (.nopR (Machine.parallelOf t))
  | .reservedAop101x w x s2 s1 d t => .reservedAop101x w x s2 s1 d (.nopR (Machine.parallelOf t))
  | .reservedAop11x1 w x s2 s1 d t => .reservedAop11x1 w x s2 s1 d (.nopR (Machine.parallelOf t))
  | .reservedAop111x w s2 s1 d t => .reservedAop111x w s2 s1 d (.nopR (Machine.parallelOf t))
  | .w11 arith code s2 s1 d t => .w11 arith code s2 s1 d (.nopR (Machine.parallelOf t))
  | .log0W s2 s1 d t => .log0W s2 s1 d (.nopR (Machine.parallelOf t))
  | .log0F s2 s1 d t => .log0F s2 s1 d (.nopR (Machine.parallelOf t))
  | .log1W s2 s1 d t => .log1W s2 s1 d (.nopR (Machine.parallelOf t))
  | .log1F s2 s1 d t => .log1F s2 s1 d (.nopR (Machine.parallelOf t))
  | .log2W s2 s1 d t => .log2W s2 s1 d (.nopR (Machine.parallelOf t))
  | .log2F s2 s1 d t => .log2F s2 s1 d (.nopR (Machine.parallelOf t))
  | .log3W s2 s1 d t => .log3W s2 s1 d (.nopR (Machine.parallelOf t))
  | .log3F s2 s1 d t => .log3F s2 s1 d (.nopR (Machine.parallelOf t))
  | .log4W s2 s1 d t => .log4W s2 s1 d (.nopR (Machine.parallelOf t))
  | .log4F s2 s1 d t => .log4F s2 s1 d (.nopR (Machine.parallelOf t))
  | .log5W s2 s1 d t => .log5W s2 s1 d (.nopR (Machine.parallelOf t))
  | .log5F s2 s1 d t => .log5F s2 s1 d (.nopR (Machine.parallelOf t))
  | .log6W s2 s1 d t => .log6W s2 s1 d (.nopR (Machine.parallelOf t))
  | .log6F s2 s1 d t => .log6F s2 s1 d (.nopR (Machine.parallelOf t))
  | .log7W s2 s1 d t => .log7W s2 s1 d (.nopR (Machine.parallelOf t))
  | .log7F s2 s1 d t => .log7F s2 s1 d (.nopR (Machine.parallelOf t))
  | .log8W s2 s1 d t => .log8W s2 s1 d (.nopR (Machine.parallelOf t))
  | .log8F s2 s1 d t => .log8F s2 s1 d (.nopR (Machine.parallelOf t))
  | .log9W s2 s1 d t => .log9W s2 s1 d (.nopR (Machine.parallelOf t))
  | .log9F s2 s1 d t => .log9F s2 s1 d (.nopR (Machine.parallelOf t))
  | .log10W s2 s1 d t => .log10W s2 s1 d (.nopR (Machine.parallelOf t))
  | .log10F s2 s1 d t => .log10F s2 s1 d (.nopR (Machine.parallelOf t))
  | .log11W s2 s1 d t => .log11W s2 s1 d (.nopR (Machine.parallelOf t))
  | .log11F s2 s1 d t => .log11F s2 s1 d (.nopR (Machine.parallelOf t))
  | .log12W s2 s1 d t => .log12W s2 s1 d (.nopR (Machine.parallelOf t))
  | .log12F s2 s1 d t => .log12F s2 s1 d (.nopR (Machine.parallelOf t))
  | .log13W s2 s1 d t => .log13W s2 s1 d (.nopR (Machine.parallelOf t))
  | .log13F s2 s1 d t => .log13F s2 s1 d (.nopR (Machine.parallelOf t))
  | .log14W s2 s1 d t => .log14W s2 s1 d (.nopR (Machine.parallelOf t))
  | .log14F s2 s1 d t => .log14F s2 s1 d (.nopR (Machine.parallelOf t))
  | .log15W s2 s1 d t => .log15W s2 s1 d (.nopR (Machine.parallelOf t))
  | .log15F s2 s1 d t => .log15F s2 s1 d (.nopR (Machine.parallelOf t))
  | .subW s2 s1 d t => .subW s2 s1 d (.nopR (Machine.parallelOf t))
  | .subF s2 s1 d t => .subF s2 s1 d (.nopR (Machine.parallelOf t))
  | .subcW s2 s1 d t => .subcW s2 s1 d (.nopR (Machine.parallelOf t))
  | .subcF s2 s1 d t => .subcF s2 s1 d (.nopR (Machine.parallelOf t))
  | .incW s2 s1 d t => .incW s2 s1 d (.nopR (Machine.parallelOf t))
  | .incF s2 s1 d t => .incF s2 s1 d (.nopR (Machine.parallelOf t))
  | .adc0W s2 s1 d t => .adc0W s2 s1 d (.nopR (Machine.parallelOf t))
  | .adc0F s2 s1 d t => .adc0F s2 s1 d (.nopR (Machine.parallelOf t))
  | .decW s2 s1 d t => .decW s2 s1 d (.nopR (Machine.parallelOf t))
  | .decF s2 s1 d t => .decF s2 s1 d (.nopR (Machine.parallelOf t))
  | .deccW s2 s1 d t => .deccW s2 s1 d (.nopR (Machine.parallelOf t))
  | .deccF s2 s1 d t => .deccF s2 s1 d (.nopR (Machine.parallelOf t))
  | .addW s2 s1 d t => .addW s2 s1 d (.nopR (Machine.parallelOf t))
  | .addF s2 s1 d t => .addF s2 s1 d (.nopR (Machine.parallelOf t))
  | .addcW s2 s1 d t => .addcW s2 s1 d (.nopR (Machine.parallelOf t))
  | .addcF s2 s1 d t => .addcF s2 s1 d (.nopR (Machine.parallelOf t))
  | .mulfW s2 s1 d t => .mulfW s2 s1 d (.nopR (Machine.parallelOf t))
  | .mulfF s2 s1 d t => .mulfF s2 s1 d (.nopR (Machine.parallelOf t))
  | .mulsW s2 s1 d t => .mulsW s2 s1 d (.nopR (Machine.parallelOf t))
  | .mulsF s2 s1 d t => .mulsF s2 s1 d (.nopR (Machine.parallelOf t))
  | .negW s2 s1 d t => .negW s2 s1 d (.nopR (Machine.parallelOf t))
  | .negF s2 s1 d t => .negF s2 s1 d (.nopR (Machine.parallelOf t))
  | .reservedAm011 p _ _ _ => .nopR p
  | .ldR p _ _ _ => .nopR p
  | .stR p _ _ _ => .nopR p
  | .reservedAmc11 p _ _ _ _ => .nopR p
  | .ldI p _ _ _ _ => .nopR p
  | .stI p _ _ _ _ => .nopR p
  | .mov p _ _ => .nopR p
  | .pswrSet p _ => .nopR p
  | .pswrRst p _ => .nopR p
  | .ldc p _ _ => .nopR p
  | .reservedRmc11 p _ _ _ => .nopR p
  | .armI p _ _ _ _ => .nopR p
  | .nopI p _ => .nopR p
  | .jmpI p _ _ _ _ => .nopR p
  | .callI p _ _ _ _ => .nopR p
  | .reserved100 p _ _ _ => .nopR p
  | .reservedRm11 p _ _ => .nopR p
  | .armR p _ _ _ => .nopR p
  | .nopR p => .nopR p
  | .reserved101 p _ => .nopR p
  | .jmpR p _ _ _ => .nopR p
  | .callR p _ _ _ => .nopR p
  | .ret p _ => .nopR p
  | .iret p _ => .nopR p
  | .reserved000 p _ => .nopR p
  | .udi p _ => .nopR p

/-- The register codes reserved as a source (R131). -/
def isReservedSource (r : RegCode) : Bool :=
  r == 0b001101#6 || r == 0b001110#6 || r == 0b011101#6 || decide (0b110000 ≤ r.toNat)

/-- The register codes reserved as a destination (R131). -/
def isReservedDestination (r : RegCode) : Bool :=
  r == 0b001101#6 || r == 0b001110#6 || r == 0b011110#6 || (decide (0b110000 ≤ r.toNat) && r != 0b111101#6)

/-- A transfer row with a reserved encoding: of the reserved spaces (R130 (a), (b), (e)), or with a reserved register code
(R130 (c)). -/
def Instr.isReservedTransfer : Instr → Bool
  | .reservedAm011 _ _ _ _ => true
  | .ldR _ _ _ r => isReservedDestination r
  | .stR _ _ _ r => isReservedSource r
  | .reservedAmc11 _ _ _ _ _ => true
  | .ldI _ _ _ r _ => isReservedDestination r
  | .stI _ _ _ r _ => isReservedSource r
  | .mov _ rd rs => isReservedDestination rd || isReservedSource rs
  | .pswrSet _ _ => false
  | .pswrRst _ _ => false
  | .ldc _ rd _ => isReservedDestination rd
  | .reservedRmc11 _ _ _ _ => true
  | .armI _ _ _ _ _ => false
  | .nopI _ _ => false
  | .jmpI _ _ _ _ _ => false
  | .callI _ _ _ _ _ => false
  | .reserved100 _ _ _ _ => true
  | .reservedRm11 _ _ _ => true
  | .armR _ _ _ _ => false
  | .nopR _ => false
  | .reserved101 _ _ => true
  | .jmpR _ _ _ _ => false
  | .callR _ _ _ _ => false
  | .ret _ _ => false
  | .iret _ _ => false
  | .reserved000 _ _ => true
  | .udi _ _ => true
  | .rot _ _ _ _ => false
  | .lsh _ _ _ _ => false
  | .ash _ _ _ _ => false
  | .lshc _ _ _ _ => false
  | .reservedAop101x _ _ _ _ _ _ => false
  | .reservedAop11x1 _ _ _ _ _ _ => false
  | .reservedAop111x _ _ _ _ _ => false
  | .w11 _ _ _ _ _ _ => false
  | .log0W _ _ _ _ => false
  | .log0F _ _ _ _ => false
  | .log1W _ _ _ _ => false
  | .log1F _ _ _ _ => false
  | .log2W _ _ _ _ => false
  | .log2F _ _ _ _ => false
  | .log3W _ _ _ _ => false
  | .log3F _ _ _ _ => false
  | .log4W _ _ _ _ => false
  | .log4F _ _ _ _ => false
  | .log5W _ _ _ _ => false
  | .log5F _ _ _ _ => false
  | .log6W _ _ _ _ => false
  | .log6F _ _ _ _ => false
  | .log7W _ _ _ _ => false
  | .log7F _ _ _ _ => false
  | .log8W _ _ _ _ => false
  | .log8F _ _ _ _ => false
  | .log9W _ _ _ _ => false
  | .log9F _ _ _ _ => false
  | .log10W _ _ _ _ => false
  | .log10F _ _ _ _ => false
  | .log11W _ _ _ _ => false
  | .log11F _ _ _ _ => false
  | .log12W _ _ _ _ => false
  | .log12F _ _ _ _ => false
  | .log13W _ _ _ _ => false
  | .log13F _ _ _ _ => false
  | .log14W _ _ _ _ => false
  | .log14F _ _ _ _ => false
  | .log15W _ _ _ _ => false
  | .log15F _ _ _ _ => false
  | .subW _ _ _ _ => false
  | .subF _ _ _ _ => false
  | .subcW _ _ _ _ => false
  | .subcF _ _ _ _ => false
  | .incW _ _ _ _ => false
  | .incF _ _ _ _ => false
  | .adc0W _ _ _ _ => false
  | .adc0F _ _ _ _ => false
  | .decW _ _ _ _ => false
  | .decF _ _ _ _ => false
  | .deccW _ _ _ _ => false
  | .deccF _ _ _ _ => false
  | .addW _ _ _ _ => false
  | .addF _ _ _ _ => false
  | .addcW _ _ _ _ => false
  | .addcF _ _ _ _ => false
  | .mulfW _ _ _ _ => false
  | .mulfF _ _ _ _ => false
  | .mulsW _ _ _ _ => false
  | .mulsF _ _ _ _ => false
  | .negW _ _ _ _ => false
  | .negF _ _ _ _ => false

/-- An instruction word with a reserved encoding in its transfer part or its OP part (R130). -/
def Instr.isReserved (i : Instr) : Bool :=
  i.transferOf.isReservedTransfer ||
    match i with
    | .reservedAop101x _ _ _ _ _ _ | .reservedAop11x1 _ _ _ _ _ _ | .reservedAop111x _ _ _ _ _ => true
    | _ => false

/-- The register code of GR[i] (R40). -/
def codeGr (i : RegIx) : RegCode := 0b010#3 ++ regBits i

/-- The register code of AR[i] (R40). -/
def codeAr (i : RegIx) : RegCode := 0b000#3 ++ regBits i

/-- The register code of the pair GR[i],AR[i] (R40). -/
def codePair (i : RegIx) : RegCode := 0b100#3 ++ regBits i

/-- Whether the transfer part of a word stores to memory: ST.R, ST.I, CALL.R, CALL.I (R69). -/
def Instr.storesMemory (i : Instr) : Bool :=
  match i.transferOf with
  | .stR _ _ _ _ | .stI _ _ _ _ _ | .callR _ _ _ _ | .callI _ _ _ _ _ => true
  | .reservedAm011 _ _ _ _ => false
  | .ldR _ _ _ _ => false
  | .reservedAmc11 _ _ _ _ _ => false
  | .ldI _ _ _ _ _ => false
  | .mov _ _ _ => false
  | .pswrSet _ _ => false
  | .pswrRst _ _ => false
  | .ldc _ _ _ => false
  | .reservedRmc11 _ _ _ _ => false
  | .armI _ _ _ _ _ => false
  | .nopI _ _ => false
  | .jmpI _ _ _ _ _ => false
  | .reserved100 _ _ _ _ => false
  | .reservedRm11 _ _ _ => false
  | .armR _ _ _ _ => false
  | .nopR _ => false
  | .reserved101 _ _ => false
  | .jmpR _ _ _ _ => false
  | .ret _ _ => false
  | .iret _ _ => false
  | .reserved000 _ _ => false
  | .udi _ _ => false
  | .rot _ _ _ _ => false
  | .lsh _ _ _ _ => false
  | .ash _ _ _ _ => false
  | .lshc _ _ _ _ => false
  | .reservedAop101x _ _ _ _ _ _ => false
  | .reservedAop11x1 _ _ _ _ _ _ => false
  | .reservedAop111x _ _ _ _ _ => false
  | .w11 _ _ _ _ _ _ => false
  | .log0W _ _ _ _ => false
  | .log0F _ _ _ _ => false
  | .log1W _ _ _ _ => false
  | .log1F _ _ _ _ => false
  | .log2W _ _ _ _ => false
  | .log2F _ _ _ _ => false
  | .log3W _ _ _ _ => false
  | .log3F _ _ _ _ => false
  | .log4W _ _ _ _ => false
  | .log4F _ _ _ _ => false
  | .log5W _ _ _ _ => false
  | .log5F _ _ _ _ => false
  | .log6W _ _ _ _ => false
  | .log6F _ _ _ _ => false
  | .log7W _ _ _ _ => false
  | .log7F _ _ _ _ => false
  | .log8W _ _ _ _ => false
  | .log8F _ _ _ _ => false
  | .log9W _ _ _ _ => false
  | .log9F _ _ _ _ => false
  | .log10W _ _ _ _ => false
  | .log10F _ _ _ _ => false
  | .log11W _ _ _ _ => false
  | .log11F _ _ _ _ => false
  | .log12W _ _ _ _ => false
  | .log12F _ _ _ _ => false
  | .log13W _ _ _ _ => false
  | .log13F _ _ _ _ => false
  | .log14W _ _ _ _ => false
  | .log14F _ _ _ _ => false
  | .log15W _ _ _ _ => false
  | .log15F _ _ _ _ => false
  | .subW _ _ _ _ => false
  | .subF _ _ _ _ => false
  | .subcW _ _ _ _ => false
  | .subcF _ _ _ _ => false
  | .incW _ _ _ _ => false
  | .incF _ _ _ _ => false
  | .adc0W _ _ _ _ => false
  | .adc0F _ _ _ _ => false
  | .decW _ _ _ _ => false
  | .decF _ _ _ _ => false
  | .deccW _ _ _ _ => false
  | .deccF _ _ _ _ => false
  | .addW _ _ _ _ => false
  | .addF _ _ _ _ => false
  | .addcW _ _ _ _ => false
  | .addcF _ _ _ _ => false
  | .mulfW _ _ _ _ => false
  | .mulfF _ _ _ _ => false
  | .mulsW _ _ _ _ => false
  | .mulsF _ _ _ _ => false
  | .negW _ _ _ _ => false
  | .negF _ _ _ _ => false

/-- Whether the OP part of a word is an arithmetical operation (R260), W = 11 included (R244). -/
def Instr.arithmetical : Instr → Bool
  | .rot _ _ _ _ => false
  | .lsh _ _ _ _ => false
  | .ash _ _ _ _ => false
  | .lshc _ _ _ _ => false
  | .reservedAop101x _ _ _ _ _ _ => false
  | .reservedAop11x1 _ _ _ _ _ _ => false
  | .reservedAop111x _ _ _ _ _ => false
  | .w11 arith _ _ _ _ _ => arith
  | .log0W _ _ _ _ => false
  | .log0F _ _ _ _ => false
  | .log1W _ _ _ _ => false
  | .log1F _ _ _ _ => false
  | .log2W _ _ _ _ => false
  | .log2F _ _ _ _ => false
  | .log3W _ _ _ _ => false
  | .log3F _ _ _ _ => false
  | .log4W _ _ _ _ => false
  | .log4F _ _ _ _ => false
  | .log5W _ _ _ _ => false
  | .log5F _ _ _ _ => false
  | .log6W _ _ _ _ => false
  | .log6F _ _ _ _ => false
  | .log7W _ _ _ _ => false
  | .log7F _ _ _ _ => false
  | .log8W _ _ _ _ => false
  | .log8F _ _ _ _ => false
  | .log9W _ _ _ _ => false
  | .log9F _ _ _ _ => false
  | .log10W _ _ _ _ => false
  | .log10F _ _ _ _ => false
  | .log11W _ _ _ _ => false
  | .log11F _ _ _ _ => false
  | .log12W _ _ _ _ => false
  | .log12F _ _ _ _ => false
  | .log13W _ _ _ _ => false
  | .log13F _ _ _ _ => false
  | .log14W _ _ _ _ => false
  | .log14F _ _ _ _ => false
  | .log15W _ _ _ _ => false
  | .log15F _ _ _ _ => false
  | .subW _ _ _ _ => true
  | .subF _ _ _ _ => true
  | .subcW _ _ _ _ => true
  | .subcF _ _ _ _ => true
  | .incW _ _ _ _ => true
  | .incF _ _ _ _ => true
  | .adc0W _ _ _ _ => true
  | .adc0F _ _ _ _ => true
  | .decW _ _ _ _ => true
  | .decF _ _ _ _ => true
  | .deccW _ _ _ _ => true
  | .deccF _ _ _ _ => true
  | .addW _ _ _ _ => true
  | .addF _ _ _ _ => true
  | .addcW _ _ _ _ => true
  | .addcF _ _ _ _ => true
  | .mulfW _ _ _ _ => true
  | .mulfF _ _ _ _ => true
  | .mulsW _ _ _ _ => true
  | .mulsF _ _ _ _ => true
  | .negW _ _ _ _ => true
  | .negF _ _ _ _ => true
  | .reservedAm011 _ _ _ _ => false
  | .ldR _ _ _ _ => false
  | .stR _ _ _ _ => false
  | .reservedAmc11 _ _ _ _ _ => false
  | .ldI _ _ _ _ _ => false
  | .stI _ _ _ _ _ => false
  | .mov _ _ _ => false
  | .pswrSet _ _ => false
  | .pswrRst _ _ => false
  | .ldc _ _ _ => false
  | .reservedRmc11 _ _ _ _ => false
  | .armI _ _ _ _ _ => false
  | .nopI _ _ => false
  | .jmpI _ _ _ _ _ => false
  | .callI _ _ _ _ _ => false
  | .reserved100 _ _ _ _ => false
  | .reservedRm11 _ _ _ => false
  | .armR _ _ _ _ => false
  | .nopR _ => false
  | .reserved101 _ _ => false
  | .jmpR _ _ _ _ => false
  | .callR _ _ _ _ => false
  | .ret _ _ => false
  | .iret _ _ => false
  | .reserved000 _ _ => false
  | .udi _ _ => false

/-- Whether the OP part of a word stores the flags (R243 to R245), by SHIFT_FLAGS; the null OP never does (R248). -/
def Instr.storesFlags (mode : ShiftFlags) : Instr → Bool
  | .rot count src dst _ => mode == .store && !isNullRot count src dst
  | .lsh _ _ _ _ => mode == .store
  | .ash _ _ _ _ => mode == .store
  | .lshc _ _ _ _ => mode == .store
  | .reservedAop101x _ _ _ _ _ _ => false
  | .reservedAop11x1 _ _ _ _ _ _ => false
  | .reservedAop111x _ _ _ _ _ => false
  | .w11 _ _ _ _ _ _ => true
  | .log0W _ _ _ _ => false
  | .log0F _ _ _ _ => true
  | .log1W _ _ _ _ => false
  | .log1F _ _ _ _ => true
  | .log2W _ _ _ _ => false
  | .log2F _ _ _ _ => true
  | .log3W _ _ _ _ => false
  | .log3F _ _ _ _ => true
  | .log4W _ _ _ _ => false
  | .log4F _ _ _ _ => true
  | .log5W _ _ _ _ => false
  | .log5F _ _ _ _ => true
  | .log6W _ _ _ _ => false
  | .log6F _ _ _ _ => true
  | .log7W _ _ _ _ => false
  | .log7F _ _ _ _ => true
  | .log8W _ _ _ _ => false
  | .log8F _ _ _ _ => true
  | .log9W _ _ _ _ => false
  | .log9F _ _ _ _ => true
  | .log10W _ _ _ _ => false
  | .log10F _ _ _ _ => true
  | .log11W _ _ _ _ => false
  | .log11F _ _ _ _ => true
  | .log12W _ _ _ _ => false
  | .log12F _ _ _ _ => true
  | .log13W _ _ _ _ => false
  | .log13F _ _ _ _ => true
  | .log14W _ _ _ _ => false
  | .log14F _ _ _ _ => true
  | .log15W _ _ _ _ => false
  | .log15F _ _ _ _ => true
  | .subW _ _ _ _ => false
  | .subF _ _ _ _ => true
  | .subcW _ _ _ _ => false
  | .subcF _ _ _ _ => true
  | .incW _ _ _ _ => false
  | .incF _ _ _ _ => true
  | .adc0W _ _ _ _ => false
  | .adc0F _ _ _ _ => true
  | .decW _ _ _ _ => false
  | .decF _ _ _ _ => true
  | .deccW _ _ _ _ => false
  | .deccF _ _ _ _ => true
  | .addW _ _ _ _ => false
  | .addF _ _ _ _ => true
  | .addcW _ _ _ _ => false
  | .addcF _ _ _ _ => true
  | .mulfW _ _ _ _ => false
  | .mulfF _ _ _ _ => true
  | .mulsW _ _ _ _ => false
  | .mulsF _ _ _ _ => true
  | .negW _ _ _ _ => false
  | .negF _ _ _ _ => true
  | .reservedAm011 _ _ _ _ => false
  | .ldR _ _ _ _ => false
  | .stR _ _ _ _ => false
  | .reservedAmc11 _ _ _ _ _ => false
  | .ldI _ _ _ _ _ => false
  | .stI _ _ _ _ _ => false
  | .mov _ _ _ => false
  | .pswrSet _ _ => false
  | .pswrRst _ _ => false
  | .ldc _ _ _ => false
  | .reservedRmc11 _ _ _ _ => false
  | .armI _ _ _ _ _ => false
  | .nopI _ _ => false
  | .jmpI _ _ _ _ _ => false
  | .callI _ _ _ _ _ => false
  | .reserved100 _ _ _ _ => false
  | .reservedRm11 _ _ _ => false
  | .armR _ _ _ _ => false
  | .nopR _ => false
  | .reserved101 _ _ => false
  | .jmpR _ _ _ _ => false
  | .callR _ _ _ _ => false
  | .ret _ _ => false
  | .iret _ _ => false
  | .reserved000 _ _ => false
  | .udi _ _ => false

/-- GRdst of the OP part of a word, where it writes it (R243 to R245, R248). -/
def Instr.opTarget : Instr → Option RegIx
  | .rot count src dst _ => if isNullRot count src dst then none else some dst
  | .lsh _ _ dst _ => some dst
  | .ash _ _ dst _ => some dst
  | .lshc _ _ dst _ => some dst
  | .reservedAop101x _ _ _ _ _ _ => none
  | .reservedAop11x1 _ _ _ _ _ _ => none
  | .reservedAop111x _ _ _ _ _ => none
  | .w11 _ _ _ _ d _ => some d
  | .log0W _ _ d _ => some d
  | .log0F _ _ _ _ => none
  | .log1W _ _ d _ => some d
  | .log1F _ _ _ _ => none
  | .log2W _ _ d _ => some d
  | .log2F _ _ _ _ => none
  | .log3W _ _ d _ => some d
  | .log3F _ _ _ _ => none
  | .log4W _ _ d _ => some d
  | .log4F _ _ _ _ => none
  | .log5W _ _ d _ => some d
  | .log5F _ _ _ _ => none
  | .log6W _ _ d _ => some d
  | .log6F _ _ _ _ => none
  | .log7W _ _ d _ => some d
  | .log7F _ _ _ _ => none
  | .log8W _ _ d _ => some d
  | .log8F _ _ _ _ => none
  | .log9W _ _ d _ => some d
  | .log9F _ _ _ _ => none
  | .log10W _ _ d _ => some d
  | .log10F _ _ _ _ => none
  | .log11W _ _ d _ => some d
  | .log11F _ _ _ _ => none
  | .log12W _ _ d _ => some d
  | .log12F _ _ _ _ => none
  | .log13W _ _ d _ => some d
  | .log13F _ _ _ _ => none
  | .log14W _ _ d _ => some d
  | .log14F _ _ _ _ => none
  | .log15W _ _ d _ => some d
  | .log15F _ _ _ _ => none
  | .subW _ _ d _ => some d
  | .subF _ _ _ _ => none
  | .subcW _ _ d _ => some d
  | .subcF _ _ _ _ => none
  | .incW _ _ d _ => some d
  | .incF _ _ _ _ => none
  | .adc0W _ _ d _ => some d
  | .adc0F _ _ _ _ => none
  | .decW _ _ d _ => some d
  | .decF _ _ _ _ => none
  | .deccW _ _ d _ => some d
  | .deccF _ _ _ _ => none
  | .addW _ _ d _ => some d
  | .addF _ _ _ _ => none
  | .addcW _ _ d _ => some d
  | .addcF _ _ _ _ => none
  | .mulfW _ _ d _ => some d
  | .mulfF _ _ _ _ => none
  | .mulsW _ _ d _ => some d
  | .mulsF _ _ _ _ => none
  | .negW _ _ d _ => some d
  | .negF _ _ _ _ => none
  | .reservedAm011 _ _ _ _ => none
  | .ldR _ _ _ _ => none
  | .stR _ _ _ _ => none
  | .reservedAmc11 _ _ _ _ _ => none
  | .ldI _ _ _ _ _ => none
  | .stI _ _ _ _ _ => none
  | .mov _ _ _ => none
  | .pswrSet _ _ => none
  | .pswrRst _ _ => none
  | .ldc _ _ _ => none
  | .reservedRmc11 _ _ _ _ => none
  | .armI _ _ _ _ _ => none
  | .nopI _ _ => none
  | .jmpI _ _ _ _ _ => none
  | .callI _ _ _ _ _ => none
  | .reserved100 _ _ _ _ => none
  | .reservedRm11 _ _ _ => none
  | .armR _ _ _ _ => none
  | .nopR _ => none
  | .reserved101 _ _ => none
  | .jmpR _ _ _ _ => none
  | .callR _ _ _ _ => none
  | .ret _ _ => none
  | .iret _ _ => none
  | .reserved000 _ _ => none
  | .udi _ _ => none

/-- An OP row with W = 01 or W = 10, without the transfer part it carries: GRsrc2, GRsrc1 and GRdst. -/
abbrev AluRow := RegIx → RegIx → RegIx → Instr → Instr

/-- The logical operations (R258): the LOP code, the row with W = 01 and the row with W = 10. -/
def logicalRows : List (BitVec 4 × AluRow × AluRow) :=
  [(0#4, .log0W, .log0F),
   (1#4, .log1W, .log1F),
   (2#4, .log2W, .log2F),
   (3#4, .log3W, .log3F),
   (4#4, .log4W, .log4F),
   (5#4, .log5W, .log5F),
   (6#4, .log6W, .log6F),
   (7#4, .log7W, .log7F),
   (8#4, .log8W, .log8F),
   (9#4, .log9W, .log9F),
   (10#4, .log10W, .log10F),
   (11#4, .log11W, .log11F),
   (12#4, .log12W, .log12F),
   (13#4, .log13W, .log13F),
   (14#4, .log14W, .log14F),
   (15#4, .log15W, .log15F)]

/-- The arithmetical operations that are one pass through the adder (R260, R274): the row with W = 01, the row with W = 10,
and the adder's inputs from GRsrc2, GRsrc1 and the flag C. -/
def adderRows : List (AluRow × AluRow × (Word → Word → Bool → Word × Word × Bool)) :=
  [(.subW, .subF, fun a b _ => (a, ~~~b, true)),
   (.subcW, .subcF, fun a b c => (a, ~~~b, c)),
   (.incW, .incF, fun a _ _ => (a, 0, true)),
   (.adc0W, .adc0F, fun a _ c => (a, 0, c)),
   (.decW, .decF, fun a _ _ => (a, 0xFFFFFFFF, false)),
   (.deccW, .deccF, fun a _ c => (a, 0xFFFFFFFF, c)),
   (.addW, .addF, fun a b _ => (a, b, false)),
   (.addcW, .addcF, fun a b c => (a, b, c)),
   (.negW, .negF, fun a _ _ => (0, ~~~a, true))]

/-- The multiplication steps (R269, R270): whether it is the first step, the row with W = 01 and the row with W = 10. -/
def multiplyRows : List (Bool × AluRow × AluRow) :=
  [(true, .mulfW, .mulfF),
   (false, .mulsW, .mulsF)]

namespace Machine

/-- The canonical form of the state's data: memory and the set of stored addresses are strictly rising lists of addresses of
the machine. -/
def State.wf (s : State) : Bool := Memory.wf s.mem && risingBelow (2 ^ 32) s.stored

/-- The invariant: the canonical form, every address stored to since reset is listed in memory (R78), and a pending transfer
has no more fetch words to wait for than BRANCH_DELAY gives (R212). -/
def State.Inv (s : State) : Prop :=
  s.wf = true ∧ (∀ a ∈ s.stored, a ∈ s.mem.map Prod.fst) ∧ ∀ q, s.pending = some q → q.words ≤ s.par.delayWords

/-- The P bit of a word is 0, or P_MODE lets it pass (R122). -/
def PAllowed (p : Bool) (s : State) : Prop := p = true → s.par.pMode = .ignore

/-- An access of the DMA agent's registers that could start a transfer, or none: DMA_MODEL lets it pass (R36, R336). -/
def DmaAllowed (touches : Bool) (s : State) : Prop := touches = true → s.par.dmaModel = .agent

/-- Every word of a 32-bit or 64-bit access at `a` is backed by plain memory (R71, R73). -/
def Accessible (s : State) (a : Word) (wide : Bool) : Prop := s.access a wide = .next ()

/-- The words that a write at `a` stores to (R64). -/
def storedWords (a : Word) (wide : Bool) : List Word := if wide then [evenWord a, oddWord a] else [a]

/-- MEM_MAP has nothing at the word (R73). -/
def Unbacked (s : State) (a : Word) : Prop := ∀ r ∈ s.par.memMap, ¬ (r.base ≤ a.toNat ∧ a.toNat < r.base + r.size)

/-- The first range of MEM_MAP that holds the word is of the kind `k` (R71). -/
def BackedBy (k : MemKind) (s : State) (a : Word) : Prop :=
  ∃ r, s.par.memMap.find? (fun r => decide (r.base ≤ a.toNat ∧ a.toNat < r.base + r.size)) = some r ∧ r.kind = k

/-- How an access at `a` stops what answers `out`: stuck where a word of it is unbacked and none a device's (R73), refused where
one is a device's and none unbacked (R71). -/
def AccessStops {α : Type} (s : State) (a : Word) (wide : Bool) (out : Result α) : Prop :=
  ((∃ b ∈ storedWords a wide, Unbacked s b) → (∀ b ∈ storedWords a wide, ¬ BackedBy .device s b) →
    out = .fault .noMemory) ∧
  ((∃ b ∈ storedWords a wide, BackedBy .device s b) → (∀ b ∈ storedWords a wide, ¬ Unbacked s b) →
    out = .refused .deviceAccess)

/-- `AccessStops`, and it completes where every word is plain memory (R71). -/
def AccessDecides (s : State) (a : Word) (wide : Bool) (out : Result State) : Prop :=
  AccessStops s a wide out ∧ ((∀ b ∈ storedWords a wide, BackedBy .plain s b) → ∃ t, out = .next t)

/-- What a register holds; a 32-bit one stands in bits 31:0. -/
def State.regValue (s : State) (r : Target) : DWord :=
  match r with
  | .gr i => (s.readGr i).zeroExtend 64
  | .ar i => (s.readAr i).zeroExtend 64
  | .pswr => s.pswr.zeroExtend 64
  | .timer t => (s.timer t).zeroExtend 64
  | .dma r c => ((s.channel c).get r).zeroExtend 64
  | .dor c => (s.channel c).dor

/-- The state with a control transfer decided (R212): it is pending for the fetch words of BRANCH_DELAY. -/
def State.jumping (s : State) (target : Word) : State :=
  { s with pending := some { target := target, words := s.par.delayWords } }

/-- The general registers other than GRdst that the OP part of a word writes: a multiplication step may have some (R269; log 14). -/
def moreTargets (i : Instr) (s : State) : List RegIx :=
  match i with
  | .mulfW s2 s1 d _ => (otherWrites (multiplyStep true 0b01#2 s2 s1 d s) d).map Prod.fst
  | .mulsW s2 s1 d _ => (otherWrites (multiplyStep false 0b01#2 s2 s1 d s) d).map Prod.fst
  | .w11 true 0b1000#4 s2 s1 d _ => (otherWrites (multiplyStep true 0b11#2 s2 s1 d s) d).map Prod.fst
  | .w11 true 0b1001#4 s2 s1 d _ => (otherWrites (multiplyStep false 0b11#2 s2 s1 d s) d).map Prod.fst
  | _ => []

/-- The general registers that the OP part of a word writes. -/
def opTargets (i : Instr) (s : State) : List RegIx := i.opTarget.toList ++ moreTargets i s

/-- The transfer part `t` names the register among those it writes (R125 point 6). -/
def WritesReg (t : Instr) (s : State) (r : Target) : Prop := ∃ plan, transferPart t s = .next plan ∧ r ∈ plan.targets

/-- The transfer part `t` writes one of the general registers `ds` that the OP part writes, or PSWR beside a store of the flags
(R125 point 6). -/
def PartsCollide (t : Instr) (s : State) (ds : List RegIx) (flags : Bool) : Prop :=
  (∃ i ∈ ds, WritesReg t s (.gr i)) ∨ (flags = true ∧ WritesReg t s .pswr)

/-- The OP row `row`, which writes the general registers `ds` and stores the flags if `flags` says so, completes with the effect
`f`: alone, beside NOP.R, and on top of every transfer part that completes, unless the two collide (R125). -/
def OpRuns (row : Instr → Instr) (s : State) (ds : List RegIx) (flags : Bool) (f : State → State) : Prop :=
  (∀ p, PAllowed p s → exec (row (.nopR p)) s = .next (f s)) ∧
    ∀ t u, t.isTransfer = true → exec t s = .next u →
      (¬ PartsCollide t s ds flags → exec (row t) s = .next (f u)) ∧
        (PartsCollide t s ds flags → exec (row t) s = .refused .writeConflict)

/-- The state after a word whose transfer part alone leaves `a` and whose OP part alone leaves `b`, both from `s`. -/
def bothParts (s a b : State) : State :=
  { a with
    gr := Vector.ofFn fun i => if b.readGr i = s.readGr i then a.readGr i else b.readGr i
    pswr := if b.pswr = s.pswr then a.pswr else b.pswr
    requests := b.requests
    draws := max a.draws b.draws }

/-- What a transfer part that writes `v` to the destination `d`, and does the register writes `more`, leaves (R42, R174): those
registers, a decided transfer if `d` holds PC, and everything else as it was. -/
def TransferWrites (s t : State) (d : Dst) (v : DWord) (more : List RegWrite) : Prop :=
  (∀ w ∈ d.writes s.par.pairOrder s.pswr v ++ more, t.regValue w.reg = w.value) ∧
    (∀ r, r ∉ d.targets ++ more.map RegWrite.reg → t.regValue r = s.regValue r) ∧
    (∀ c, (t.channel c).dir = (s.channel c).dir) ∧
    t.pending = (match d.jump s.par.pairOrder v with
      | some target => some { target := target, words := s.par.delayWords }
      | none => s.pending) ∧
    t = { s with
          gr := t.gr, ar := t.ar, pswr := t.pswr, t0 := t.t0, t1 := t.t1, dma := t.dma, pending := t.pending
          draws := t.draws }

/-- The 64-bit stack entry { PSWR, pc } pushed (R220, R221, R310): the two words, AR7, and every other word and address
register as before. -/
def Pushed (s t : State) (pc : Word) : Prop :=
  let a : Word := if s.par.stackDir = .up then s.readAr 7 else s.readAr 7 - 2#32
  (s.par.pairOrder = .firstHigh → t.word (a &&& 0xFFFFFFFE#32) = pc ∧ t.word (a ||| 1#32) = s.pswr) ∧
    (s.par.pairOrder = .firstLow → t.word (a &&& 0xFFFFFFFE#32) = s.pswr ∧ t.word (a ||| 1#32) = pc) ∧
    (∀ b, b ≠ a &&& 0xFFFFFFFE#32 → b ≠ a ||| 1#32 → t.word b = s.word b) ∧
    t.readAr 7 = (if s.par.stackDir = .up then s.readAr 7 + 2#32 else s.readAr 7 - 2#32) ∧
    ∀ j, j ≠ 7 → t.readAr j = s.readAr j

/-- The state after `k` steps. -/
def runSteps : Nat → State → Result State
  | 0, s => .next s
  | k + 1, s => andThen (step s) (runSteps k)

/-- A run of `k` steps is safe: it ends in no fault and no refusal (R376: still running). -/
def SafeFor (k : Nat) (s : State) : Prop := ∃ t, runSteps k s = .next t

/-- R375: the core is about to execute an unconditional long jump to its own address, with nothing pending. -/
def AtEnd (s : State) : Prop :=
  s.slot = false ∧ s.pending = none ∧ s.readValue s.pc true = s.pc ++ 0x48270000#32

end Machine

end Sys2Proof
end

