-- ==== Sys2Proof/Certificates/Slice0/Obligations.lean ====
section
/-!
DEFINITION. The statements for the provers, from the numbered rules of spec/. Each says in its first line what it states and
which rules it rests on. State ranges over every state, so over every value of the parameters it carries.
-/

open Sys2Proof Sys2Proof.Machine

/-- Decoding the encoded word of every well-formed instruction gives that instruction (R90, R92, R93, R111, R113, R120, R137).
-/
def Obligations.DecodeOfEncodeIsTheInstruction : Prop :=
  ∀ i : Instr, i.wellFormed = true →
    (∀ k : Word, (∀ c, constantOf i = some c → k = c) → decodeFetch (k ++ encodeWord i) false = some i) ∧
      (constantOf i = none → ∀ low : Word, decodeFetch (encodeWord i ++ low) true = some i)

/-- Every 32-bit word decodes to a well-formed instruction, with a constant exactly when it is a long format (R91, R92, R130,
R137). -/
def Obligations.EveryWordIsAWellFormedInstruction : Prop :=
  ∀ w k : Word,
    (decode w k).wellFormed = true ∧
      constantOf (decode w k) = (if w.extractLsb' 28 3 = 0b100#3 ∨ w.extractLsb' 28 3 = 0b110#3 then some k else none) ∧
      parallelOf (decode w k) = w.getLsbD 31

/-- Words written out in the spec decode to the instructions the spec says (95_test_vectors.md, R94, R96, R99, R104, R106, R108,
R110). -/
def Obligations.SpecWordsDecode : Prop :=
  decode 0x50100000#32 0 = .nopR false ∧
    decode 0x3C110000#32 0 = .ldR false .postInc 0 0b010001#6 ∧
    decode 0x62120000#32 0x100 = .stI false .absolute 0 0b010010#6 0x100 ∧
    decode 0x75430000#32 0 = .mov false 0b010101#6 0b000011#6 ∧
    decode 0x44000000#32 5 = .ldc false 0b010000#6 5 ∧
    decode 0x56520000#32 0 = .armR false .arAddGr 1 2 ∧
    decode 0x48260000#32 0x40 = .jmpI false .k 0 .ne 0x40 ∧
    decode 0x0BF70000#32 0 = .iret false .al ∧
    decode 0x5010114A#32 0 = .lsh 5 1 2 (.nopR false) ∧
    decode 0x50104C50#32 0 = .log6W 1 2 0 (.nopR false) ∧
    decode 0x50106C0A#32 0 = .addW 0 1 2 (.nopR false) ∧
    decode 0x5010A008#32 0 = .subF 0 1 0 (.nopR false)

/-- The register codes reserved in each direction are exactly those of R131: MOV, LDC, loads and stores raise on those alone
(R131). -/
def Obligations.ReservedRegisterCodesAreTheSpecs : Prop :=
  let source (r : RegCode) : Prop := r = 0b001101#6 ∨ r = 0b001110#6 ∨ r = 0b011101#6 ∨ 0b110000 ≤ r.toNat
  let destination (r : RegCode) : Prop :=
    r = 0b001101#6 ∨ r = 0b001110#6 ∨ r = 0b011110#6 ∨ (0b110000 ≤ r.toNat ∧ r ≠ 0b111101#6)
  ∀ (p : Bool) (am : AM) (amc : AMC) (i : RegIx) (r x : RegCode) (k : Word) (s : State), PAllowed p s →
    (exec (.stR p am i r) s = .fault .illegalInstruction ↔ source r) ∧
      (exec (.stI p amc i r k) s = .fault .illegalInstruction ↔ source r) ∧
      (exec (.ldR p am i r) s = .fault .illegalInstruction ↔ destination r) ∧
      (exec (.ldI p amc i r k) s = .fault .illegalInstruction ↔ destination r) ∧
      (exec (.ldc p r k) s = .fault .illegalInstruction ↔ destination r) ∧
      (exec (.mov p r x) s = .fault .illegalInstruction ↔ destination r ∨ source x)

/-- The reserved AOP codes raise IllegalInstruction whatever W is (R272). -/
def Obligations.ReservedAopCodesRaise : Prop :=
  ∀ (w k : Word) (s : State), PAllowed (w.getLsbD 31) s → w.extractLsb' 14 2 ≠ 0b00#2 → w.getLsbD 13 = true →
    (w.extractLsb' 9 4 = 0b1010#4 ∨ w.extractLsb' 9 4 = 0b1011#4 ∨ w.extractLsb' 9 4 = 0b1101#4 ∨
      w.extractLsb' 9 4 = 0b1110#4 ∨ w.extractLsb' 9 4 = 0b1111#4) →
    exec (decode w k) s = .fault .illegalInstruction

/-- Every well-formed word with a reserved encoding in its transfer part (reserved register codes included) or its OP part
faults (R125, R130, R131, R132, R272, R290, R316). -/
def Obligations.ReservedEncodingsFault : Prop :=
  ∀ (i : Instr) (s : State), i.wellFormed = true → i.isReserved = true → PAllowed (parallelOf i) s →
    exec i s = .fault .illegalInstruction

/-- Reset: slot 0, nothing pending, memory unlisted, the invariant; registers (DIR too) 0 and PC 0x100 are the model's choice
(log 6, 7) (R39, R45, R351). -/
def Obligations.ResetIsAsNamed : Prop :=
  State.reset.Inv ∧ State.reset.slot = false ∧ State.reset.pending = none ∧ State.reset.mem = [] ∧
    State.reset.pc = 0x100#32 ∧ State.reset.requests = 0 ∧ State.reset.dmaRequests = 0 ∧
    (∀ r : Target, State.reset.regValue r = 0) ∧ ∀ c, (State.reset.channel c).dir = 0

/-- Every step keeps the invariant (canonical memory, stored addresses listed, no pending transfer longer than BRANCH_DELAY) and
the parameters (R8, R13, R60, R62, R78, R212). -/
def Obligations.StepKeepsTheInvariant : Prop :=
  ∀ s t : State, step s = .next t →
    (s.Inv → t.Inv) ∧ t.par = s.par ∧ s.draws ≤ t.draws ∧ t.inputs = s.inputs.tail

/-- No instruction clears a request or sets one, but that an arithmetical operation may set that of interrupt 2; none moves PC
itself (R26, R33, R273, R302). -/
def Obligations.InstructionsLeaveRequestsAlone : Prop :=
  ∀ (i : Instr) (s t : State), exec i s = .next t →
    t.dmaRequests = s.dmaRequests ∧ t.inputs = s.inputs ∧ t.irqWait = s.irqWait ∧ t.pc = s.pc ∧ t.slot = s.slot ∧
      t.par = s.par ∧ (∀ n, n ≠ .overflow → t.req n = s.req n) ∧
      (s.req .overflow = true → t.req .overflow = true) ∧ (i.arithmetical = false → t.requests = s.requests)

/-- Only ST.R, ST.I, CALL.R and CALL.I change memory (R69, R170, R240). -/
def Obligations.OnlyStoresAndCallsWriteMemory : Prop :=
  ∀ (i : Instr) (s t : State), exec i s = .next t → i.storesMemory = false →
    t.mem = s.mem ∧ t.stored = s.stored ∧ ∀ a, t.word a = s.word a

/-- PSWR changes only by a flag store or a write of PSWR; a flag store changes the four flag bits only, and they read back as
stored (R30, R31, R243, R245). -/
def Obligations.PswrChangesOnlyWhereStoredOrWritten : Prop :=
  (∀ (i : Instr) (s t : State), exec i s = .next t → ¬ WritesReg i.transferOf s .pswr →
    (i.storesFlags s.par.shiftFlags = false → t.pswr = s.pswr) ∧
      ∀ b : Fin 32, b ∉ [s.par.pswrLayout.n, s.par.pswrLayout.z, s.par.pswrLayout.v, s.par.pswrLayout.c] →
        t.pswr.getLsbD b.val = s.pswr.getLsbD b.val) ∧
  ∀ (l : PswrLayout) (pswr : Word) (f : Flags), flagsOfPswr l (storeFlags l pswr f) = f

/-- MemWrite: a 32-bit write changes its word and no other; a 64-bit write changes the aligned pair, low half to the even word
(R64). -/
def Obligations.WriteChangesItsWordsOnly : Prop :=
  ∀ (s : State) (a : Word) (wide : Bool) (v : DWord), Accessible s a wide →
    ∃ t, s.memWrite a wide v = .next t ∧ t = { s with mem := t.mem, stored := t.stored } ∧
      (wide = false → t.word a = v.extractLsb' 0 32 ∧ ∀ b, b ≠ a → t.word b = s.word b) ∧
      (wide = true →
        t.word (a &&& 0xFFFFFFFE#32) = v.extractLsb' 0 32 ∧ t.word (a ||| 1#32) = v.extractLsb' 32 32 ∧
          ∀ b, b ≠ a &&& 0xFFFFFFFE#32 → b ≠ a ||| 1#32 → t.word b = s.word b)

/-- A 64-bit write then 32-bit reads see its halves, and two 32-bit writes then a 64-bit read see both; an odd 64-bit address is
its even one (R62, R63, R67, R68). -/
def Obligations.MixedWidthAccessesSeeTheHalves : Prop :=
  ∀ (s : State) (a : Word) (v : DWord) (x y : Word), a.getLsbD 0 = false → Accessible s a true →
    (∀ b, b = a ∨ b = a + 1#32 → ∃ t, s.memWrite b true v = .next t ∧
      t.memRead a false = .next ((v.extractLsb' 0 32).zeroExtend 64) ∧
      t.memRead (a + 1#32) false = .next ((v.extractLsb' 32 32).zeroExtend 64) ∧ t.memRead b true = .next v) ∧
    ∃ t u, s.memWrite a false (x.zeroExtend 64) = .next t ∧ t.memWrite (a + 1#32) false (y.zeroExtend 64) = .next u ∧
      u.memRead a true = .next (y ++ x) ∧ u.memRead (a + 1#32) true = .next (y ++ x)

/-- Every access (load, store, call, return, interrupt entry, fetch) is stuck outside MEM_MAP, refused at a device, done in
plain memory (R63, R64, R66, R71, R73, R221, R225, R310). Where a legal code names a DMA register, under DMA_MODEL = agent
(log 27). An access of which one word is unbacked and the other a device's stops by the even word (log 44); nothing is said
of it here. -/
def Obligations.AccessesFollowTheMemoryMap : Prop :=
  (∀ (p : Bool) (i : RegIx) (s : State), PAllowed p s →
    (∀ (r : RegCode) (d : Dst), dstOf r = some d → DmaAllowed d.touchesDma s → (d.transfers = true → s.pending = none) →
      (∀ am : AM, modeWrite i (amUpdate am (s.readAr i) (s.readGr i) (stepOf d.wide)) = [] ∨ .ar i ∉ d.targets →
        AccessDecides s (amAddress am (s.readAr i) (s.readGr i) (stepOf d.wide)) d.wide (exec (.ldR p am i r) s)) ∧
      ∀ (amc : AMC) (k : Word), modeWrite i (amcUpdate amc (s.readAr i) k) = [] ∨ .ar i ∉ d.targets →
        AccessDecides s (amcAddress amc (s.readAr i) k) d.wide (exec (.ldI p amc i r k) s)) ∧
    (∀ (r : RegCode) (x : Src), srcOf r = some x → DmaAllowed x.touchesDma s →
      (∀ am : AM,
        AccessDecides s (amAddress am (s.readAr i) (s.readGr i) (stepOf x.wide)) x.wide (exec (.stR p am i r) s)) ∧
      ∀ (amc : AMC) (k : Word), AccessDecides s (amcAddress amc (s.readAr i) k) x.wide (exec (.stI p amc i r k) s)) ∧
    ∀ cond : Cond, condHolds cond s.flags = true → s.pending = none →
      let push : Word := if s.par.stackDir = .up then s.readAr 7 else s.readAr 7 - 2#32
      let pop : Word := if s.par.stackDir = .up then s.readAr 7 - 2#32 else s.readAr 7
      (∀ pm : PM, AccessDecides s push true (exec (.callR p pm i cond) s)) ∧
        (∀ (pmc : PMC) (k : Word), AccessDecides s push true (exec (.callI p pmc i cond k) s)) ∧
        AccessDecides s pop true (exec (.ret p cond) s) ∧ AccessDecides s pop true (exec (.iret p cond) s)) ∧
  ∀ s : State,
    (∀ n : Irq,
      AccessDecides s (if s.par.stackDir = .up then s.readAr 7 else s.readAr 7 - 2#32) true (enterInterrupt n s)) ∧
      AccessStops s s.pc true (runInstr s)

/-- LD.R of a general register in its seven modes: address, loaded word, new AR[i], nothing else (R21, R65, R140, R141, R142,
R145). -/
def Obligations.LoadsIntoGeneralRegisters : Prop :=
  ∀ (p : Bool) (i j : RegIx) (s : State), PAllowed p s →
    let A := s.readAr i
    let G := s.readGr i
    (Accessible s G false → exec (.ldR p .gr i (codeGr j)) s = .next (s.setGr j (s.word G))) ∧
      (Accessible s (A + G) false →
        exec (.ldR p .preAddGr i (codeGr j)) s = .next ((s.setGr j (s.word (A + G))).setAr i (A + G))) ∧
      (Accessible s G false → exec (.ldR p .loadGr i (codeGr j)) s = .next ((s.setGr j (s.word G)).setAr i G)) ∧
      (Accessible s A false → exec (.ldR p .ar i (codeGr j)) s = .next (s.setGr j (s.word A))) ∧
      (Accessible s A false →
        exec (.ldR p .postAddGr i (codeGr j)) s = .next ((s.setGr j (s.word A)).setAr i (A + G))) ∧
      (Accessible s (A - 1#32) false →
        exec (.ldR p .preDec i (codeGr j)) s = .next ((s.setGr j (s.word (A - 1#32))).setAr i (A - 1#32))) ∧
      (Accessible s A false →
        exec (.ldR p .postInc i (codeGr j)) s = .next ((s.setGr j (s.word A)).setAr i (A + 1#32)))

/-- Table 5-2: the address and the new AR[i] of LD.I and ST.I in each mode, and the reserved mode (R143). -/
def Obligations.ConstantModesOfLoadsAndStores : Prop :=
  ∀ (p : Bool) (i j : RegIx) (k : Word) (s : State), PAllowed p s →
    let A := s.readAr i
    (Accessible s k false →
      exec (.ldI p .absolute i (codeGr j) k) s = .next (s.setGr j (s.word k)) ∧
        exec (.ldI p .loadK i (codeGr j) k) s = .next ((s.setGr j (s.word k)).setAr i k) ∧
        exec (.stI p .absolute i (codeGr j) k) s = .next (s.setWord k (s.readGr j)) ∧
        exec (.stI p .loadK i (codeGr j) k) s = .next ((s.setWord k (s.readGr j)).setAr i k)) ∧
      (Accessible s (A + k) false →
        exec (.ldI p .preAddK i (codeGr j) k) s = .next ((s.setGr j (s.word (A + k))).setAr i (A + k)) ∧
          exec (.stI p .preAddK i (codeGr j) k) s = .next ((s.setWord (A + k) (s.readGr j)).setAr i (A + k))) ∧
      ∀ (store : Bool) (r : RegCode), exec (.reservedAmc11 p store i r k) s = .fault .illegalInstruction

/-- LD.R of a pair GRj,ARj: 64 bits, bit 0 of the address ignored, halves by PAIR_ORDER, step 2; refused when the mode writes
ARj (R43, R63, R65, R142, R145, R150). -/
def Obligations.LoadsIntoRegisterPairs : Prop :=
  ∀ (p : Bool) (i j : RegIx) (s : State), PAllowed p s →
    let A := s.readAr i
    let odd (a : Word) := s.word (a ||| 1#32)
    let even (a : Word) := s.word (a &&& 0xFFFFFFFE#32)
    let loaded (a : Word) : State :=
      if s.par.pairOrder = .firstHigh then (s.setGr j (odd a)).setAr j (even a) else (s.setGr j (even a)).setAr j (odd a)
    (Accessible s A true → exec (.ldR p .ar i (codePair j)) s = .next (loaded A)) ∧
      (Accessible s A true → i ≠ j → exec (.ldR p .postInc i (codePair j)) s = .next ((loaded A).setAr i (A + 2#32))) ∧
      (Accessible s (A - 2#32) true → i ≠ j →
        exec (.ldR p .preDec i (codePair j)) s = .next ((loaded (A - 2#32)).setAr i (A - 2#32))) ∧
      (i = j → exec (.ldR p .postInc i (codePair j)) s = .refused .writeConflict ∧
        exec (.ldR p .preDec i (codePair j)) s = .refused .writeConflict)

/-- LD.R and LD.I complete for every legal destination code (one that could start DMA: as DMA_MODEL says, log 27), or meet the
mode's register (R36, R42, R144, R145, R147, R149, R150, R174, R336). Log 27: R36 and R336 refuse an access that could start
a DMA transfer by default (DMA_MODEL = none, the launch value); what it does under DMA_MODEL = agent is the model's choice
(DESIGN CHOICE, unsafe). -/
def Obligations.LoadsReachEveryDestination : Prop :=
  ∀ (p : Bool) (i : RegIx) (r : RegCode) (d : Dst) (s : State), PAllowed p s → dstOf r = some d →
    (d.transfers = true → s.pending = none) →
    (DmaAllowed d.touchesDma s → ∀ am : AM, let a := amAddress am (s.readAr i) (s.readGr i) (stepOf d.wide)
      let mode := modeWrite i (amUpdate am (s.readAr i) (s.readGr i) (stepOf d.wide))
      Accessible s a d.wide → (mode = [] ∨ .ar i ∉ d.targets) →
        ∃ t, exec (.ldR p am i r) s = .next t ∧ TransferWrites s t d (s.readValue a d.wide) mode ∧
          t.draws = s.draws) ∧
    (DmaAllowed d.touchesDma s → ∀ (amc : AMC) (k : Word), let a := amcAddress amc (s.readAr i) k
      let mode := modeWrite i (amcUpdate amc (s.readAr i) k)
      Accessible s a d.wide → (mode = [] ∨ .ar i ∉ d.targets) →
        ∃ t, exec (.ldI p amc i r k) s = .next t ∧ TransferWrites s t d (s.readValue a d.wide) mode ∧
          t.draws = s.draws) ∧
    (d.touchesDma = true → s.par.dmaModel = .none →
      (∀ am : AM, exec (.ldR p am i r) s = .refused .dmaAccess) ∧
        ∀ (amc : AMC) (k : Word), exec (.ldI p amc i r k) s = .refused .dmaAccess) ∧
    (r = codeAr i ∨ r = codePair i →
      (∀ am : AM, am ≠ .gr → am ≠ .ar → exec (.ldR p am i r) s = .refused .writeConflict) ∧
        ∀ (amc : AMC) (k : Word), amc ≠ .absolute → exec (.ldI p amc i r k) s = .refused .writeConflict)

/-- ST.R and ST.I complete for every legal source code (DIRn as DMA_MODEL says, log 27): the stored words, the mode register,
nothing else (R36, R41, R64, R65, R146, R148, R149, R336). Log 27: R36 and R336 refuse an access that could start a DMA
transfer by default (DMA_MODEL = none, the launch value); what it does under DMA_MODEL = agent is the model's choice (DESIGN
CHOICE, unsafe). -/
def Obligations.StoresFromEverySource : Prop :=
  ∀ (p : Bool) (i : RegIx) (r : RegCode) (x : Src) (s : State), PAllowed p s → srcOf r = some x →
    let stores (t : State) (a : Word) (newA : Option Word) : Prop :=
      (x.wide = false → t.word a = (s.readSrc x).extractLsb' 0 32) ∧
        (x.wide = true → t.word (evenWord a) = (s.readSrc x).extractLsb' 0 32 ∧
          t.word (oddWord a) = (s.readSrc x).extractLsb' 32 32) ∧
        (∀ b, b ∉ storedWords a x.wide → t.word b = s.word b) ∧
        t.readAr i = newA.getD (s.readAr i) ∧ (∀ j, j ≠ i → t.readAr j = s.readAr j) ∧
        t = { s with
              ar := t.ar, mem := t.mem, stored := t.stored
              draws := if s.takesDraw x then s.draws + 1 else s.draws }
    (DmaAllowed x.touchesDma s → ∀ am : AM, let a := amAddress am (s.readAr i) (s.readGr i) (stepOf x.wide)
      Accessible s a x.wide → ∃ t, exec (.stR p am i r) s = .next t ∧
        stores t a (amUpdate am (s.readAr i) (s.readGr i) (stepOf x.wide))) ∧
    (DmaAllowed x.touchesDma s → ∀ (amc : AMC) (k : Word), let a := amcAddress amc (s.readAr i) k
      Accessible s a x.wide → ∃ t, exec (.stI p amc i r k) s = .next t ∧ stores t a (amcUpdate amc (s.readAr i) k)) ∧
    (x.touchesDma = true → s.par.dmaModel = .none →
      (∀ am : AM, exec (.stR p am i r) s = .refused .dmaAccess) ∧
        ∀ (amc : AMC) (k : Word), exec (.stI p amc i r k) s = .refused .dmaAccess)

/-- What ST.I [#K] stores: GR, AR, PSWR, PC with its offset, a DMA register, each 64-bit source by PAIR_ORDER (T1,T0: log 26;
DIRn: log 27) (R26, R34, R35, R36, R41, R43, R146, R148, R330). Log 26: that the pair T1,T0 gives two free values under
TIMER_MODEL = environment is R330, what a counter is is the model's choice. Log 27: R36 and R336 refuse an access that could
start a DMA transfer by default (DMA_MODEL = none, the launch value); what it does under DMA_MODEL = agent is the model's
choice (DESIGN CHOICE, unsafe). -/
def Obligations.StoredValuesAreTheRegisters : Prop :=
  ∀ (p : Bool) (i j : RegIx) (k : Word) (s : State), PAllowed p s →
    (Accessible s k false →
      exec (.stI p .absolute i (codeGr j) k) s = .next (s.setWord k (s.readGr j)) ∧
        exec (.stI p .absolute i (codeAr j) k) s = .next (s.setWord k (s.readAr j)) ∧
        exec (.stI p .absolute i 0b011111#6 k) s = .next (s.setWord k s.pswr) ∧
        exec (.stI p .absolute i 0b001111#6 k) s = .next (s.setWord k (s.pc + 2#32 * s.par.pcReadAhead)) ∧
        exec (.stI p .absolute i 0b001011#6 k) s = .next (s.setWord k (s.channel 1).ica)) ∧
    (Accessible s k true →
      let even := k &&& 0xFFFFFFFE#32
      let odd := k ||| 1#32
      let stored (first second : Word) : State :=
        if s.par.pairOrder = .firstHigh then (s.setWord even second).setWord odd first
        else (s.setWord even first).setWord odd second
      (∀ (code : RegCode) (first second : Word),
        (code, first, second) ∈ [(codePair j, s.readGr j, s.readAr j), (0b101111#6, s.pswr, s.pc + 2#32 * s.par.pcReadAhead),
          (0b101000#6, (s.channel 0).occ, (s.channel 0).oca), (0b101001#6, (s.channel 0).icc, (s.channel 0).ica),
          (0b101010#6, (s.channel 1).occ, (s.channel 1).oca), (0b101011#6, (s.channel 1).icc, (s.channel 1).ica)] →
        exec (.stI p .absolute i code k) s = .next (stored first second)) ∧
      (∀ c0 c1 : TimerCounter, s.par.timerModel = .counters c0 c1 →
        exec (.stI p .absolute i 0b101100#6 k) s = .next (stored s.t1 s.t0)) ∧
      (s.par.timerModel = .environment →
        ∃ x y, exec (.stI p .absolute i 0b101100#6 k) s = .next { stored x y with draws := s.draws + 1 }) ∧
      (s.par.dmaModel = .agent → ∀ (code : RegCode) (c : Fin 2), (code, c) ∈ [(0b101101#6, 0), (0b101110#6, 1)] →
        exec (.stI p .absolute i code k) s =
          .next ((s.setWord even ((s.channel c).dir.extractLsb' 0 32)).setWord odd
            ((s.channel c).dir.extractLsb' 32 32))))

/-- MOV completes for every two legal codes of one width (DMA ones as DMA_MODEL says, log 27), writing the source's value; else
it is refused (R36, R41, R42, R170, R171, R172, R174, R336). Log 27: R36 and R336 refuse an access that could start a DMA
transfer by default (DMA_MODEL = none, the launch value); what it does under DMA_MODEL = agent is the model's choice (DESIGN
CHOICE, unsafe). -/
def Obligations.MoveReachesEveryDestination : Prop :=
  ∀ (p : Bool) (rd rs : RegCode) (d : Dst) (x : Src) (s : State), PAllowed p s → dstOf rd = some d → srcOf rs = some x →
    (x.wide = d.wide → DmaAllowed (x.touchesDma || d.touchesDma) s → (d.transfers = true → s.pending = none) →
      ∃ t, exec (.mov p rd rs) s = .next t ∧ TransferWrites s t d (s.readSrc x) [] ∧
        t.draws = if s.takesDraw x then s.draws + 1 else s.draws) ∧
    (x.wide = d.wide → x.touchesDma = true ∨ d.touchesDma = true → s.par.dmaModel = .none →
      exec (.mov p rd rs) s = .refused .dmaAccess) ∧
    (x.wide ≠ d.wide → exec (.mov p rd rs) s = .refused .moveWidth)

/-- MOV GRj from each kind of 32-bit register: its value; from a timer one nothing is known of, or that of its counter (log 26)
(R26, R30, R34, R35, R40, R41, R171, R330). Log 26: R330 leaves the timers to the environment by default; what a definite
counter is is the model's choice. -/
def Obligations.MovesIntoGeneralRegisters : Prop :=
  ∀ (p : Bool) (i j : RegIx) (s : State), PAllowed p s →
    (∀ (code : RegCode) (v : Word),
      (code, v) ∈ [(codeAr i, s.readAr i), (codeGr i, s.readGr i), (0b011111#6, s.pswr),
        (0b001111#6, s.pc + 2#32 * s.par.pcReadAhead), (0b001000#6, (s.channel 0).oca),
        (0b001001#6, (s.channel 0).ica), (0b001010#6, (s.channel 1).oca), (0b001011#6, (s.channel 1).ica),
        (0b011000#6, (s.channel 0).occ), (0b011001#6, (s.channel 0).icc), (0b011010#6, (s.channel 1).occ),
        (0b011011#6, (s.channel 1).icc)] →
      exec (.mov p (codeGr j) code) s = .next (s.setGr j v)) ∧
    (s.par.timerModel = .environment → ∀ code : RegCode, code = 0b001100#6 ∨ code = 0b011100#6 →
      ∃ v, exec (.mov p (codeGr j) code) s = .next { s.setGr j v with draws := s.draws + 1 }) ∧
    ∀ c0 c1 : TimerCounter, s.par.timerModel = .counters c0 c1 →
      exec (.mov p (codeGr j) 0b001100#6) s = .next (s.setGr j s.t0) ∧
        exec (.mov p (codeGr j) 0b011100#6) s = .next (s.setGr j s.t1)

/-- MOV of GRj into each 32-bit register: AR, PSWR, the set and reset masks, the timers, PC, and DMA ones as DMA_MODEL says (log
27) (R32, R34, R35, R40, R42, R171, R173, R174, R336). Log 27: R36 and R336 refuse an access that could start a DMA transfer
by default (DMA_MODEL = none, the launch value); what it does under DMA_MODEL = agent is the model's choice (DESIGN CHOICE,
unsafe). -/
def Obligations.MovesFromGeneralRegisters : Prop :=
  ∀ (p : Bool) (i j : RegIx) (s : State), PAllowed p s →
    let v := s.readGr j
    let c0 := s.channel 0
    let c1 := s.channel 1
    (∀ (code : RegCode) (t : State),
      (code, t) ∈ [(codeAr i, s.setAr i v), (codeGr i, s.setGr i v), (0b011111#6, { s with pswr := v }),
        (0b111101#6, { s with pswr := s.pswr ||| v }), (0b011101#6, { s with pswr := s.pswr &&& ~~~v }),
        (0b001100#6, { s with t0 := v }), (0b011100#6, { s with t1 := v })] →
      exec (.mov p code (codeGr j)) s = .next t) ∧
    (∀ (code : RegCode) (t : State),
      (code, t) ∈ [(0b001000#6, s.setChannel 0 { c0 with oca := v }), (0b001001#6, s.setChannel 0 { c0 with ica := v }),
        (0b001010#6, s.setChannel 1 { c1 with oca := v }), (0b001011#6, s.setChannel 1 { c1 with ica := v }),
        (0b011000#6, s.setChannel 0 { c0 with occ := v }), (0b011001#6, s.setChannel 0 { c0 with icc := v }),
        (0b011010#6, s.setChannel 1 { c1 with occ := v }), (0b011011#6, s.setChannel 1 { c1 with icc := v })] →
      (s.par.dmaModel = .agent → exec (.mov p code (codeGr j)) s = .next t) ∧
        (s.par.dmaModel = .none → exec (.mov p code (codeGr j)) s = .refused .dmaAccess)) ∧
    (s.pending = none → exec (.mov p 0b001111#6 (codeGr j)) s = .next (s.jumping v))

/-- MOV of 64-bit codes: a pair from every 64-bit source, and to PSWR,PC, T1,T0 (log 26) and, as DMA_MODEL says (log 27), the
DMA ones (R26, R34, R35, R36, R40, R41, R42, R43, R171, R174, R330, R336). Log 26: that the pair T1,T0 gives two free values
under TIMER_MODEL = environment is R330, what a counter is is the model's choice. Log 27: R36 and R336 refuse an access that
could start a DMA transfer by default (DMA_MODEL = none, the launch value); what it does under DMA_MODEL = agent is the
model's choice (DESIGN CHOICE, unsafe). -/
def Obligations.MovesOfPairs : Prop :=
  ∀ (p : Bool) (i j : RegIx) (s : State), PAllowed p s →
    let moved (first second : Word) : State := (s.setGr i first).setAr i second
    let high (v : DWord) : Word := v.extractLsb' 32 32
    let low (v : DWord) : Word := v.extractLsb' 0 32
    (∀ (code : RegCode) (first second : Word),
        (code, first, second) ∈ [(codePair j, s.readGr j, s.readAr j), (0b101111#6, s.pswr, s.pc + 2#32 * s.par.pcReadAhead),
          (0b101000#6, (s.channel 0).occ, (s.channel 0).oca), (0b101001#6, (s.channel 0).icc, (s.channel 0).ica),
          (0b101010#6, (s.channel 1).occ, (s.channel 1).oca), (0b101011#6, (s.channel 1).icc, (s.channel 1).ica)] →
        exec (.mov p (codePair i) code) s = .next (moved first second)) ∧
      (∀ c0 c1 : TimerCounter, s.par.timerModel = .counters c0 c1 →
        exec (.mov p (codePair i) 0b101100#6) s = .next (moved s.t1 s.t0)) ∧
      (s.par.timerModel = .environment →
        ∃ x y, exec (.mov p (codePair i) 0b101100#6) s = .next { moved x y with draws := s.draws + 1 }) ∧
      exec (.mov p 0b101100#6 (codePair j)) s = .next { s with t1 := s.readGr j, t0 := s.readAr j } ∧
      (s.pending = none →
        exec (.mov p 0b101111#6 (codePair j)) s = .next ({ s with pswr := s.readGr j }.jumping (s.readAr j))) ∧
      (s.par.dmaModel = .agent →
        (∀ (code : RegCode) (c : Fin 2), (code, c) ∈ [(0b101101#6, 0), (0b101110#6, 1)] →
          exec (.mov p (codePair i) code) s =
            .next (if s.par.pairOrder = .firstHigh then moved (high (s.channel c).dir) (low (s.channel c).dir)
              else moved (low (s.channel c).dir) (high (s.channel c).dir))) ∧
          (∀ (code : RegCode) (c : Fin 2), (code, c) ∈ [(0b101000#6, 0), (0b101010#6, 1)] →
            exec (.mov p code (codePair j)) s =
              .next (s.setChannel c { s.channel c with occ := s.readGr j, oca := s.readAr j })) ∧
          (∀ (code : RegCode) (c : Fin 2), (code, c) ∈ [(0b101001#6, 0), (0b101011#6, 1)] →
            exec (.mov p code (codePair j)) s =
              .next (s.setChannel c { s.channel c with icc := s.readGr j, ica := s.readAr j })) ∧
          exec (.mov p 0b101101#6 0b101101#6) s =
            .next (s.setChannel 0 { s.channel 0 with dor := (s.channel 0).dir }) ∧
          exec (.mov p 0b101110#6 (codePair j)) s =
            .next (s.setChannel 1 { s.channel 1 with
              dor := if s.par.pairOrder = .firstHigh then s.readGr j ++ s.readAr j else s.readAr j ++ s.readGr j })) ∧
      (s.par.dmaModel = .none →
        ∀ row ∈ [Instr.mov p 0b101000#6 (codePair j), .mov p 0b101001#6 (codePair j), .mov p 0b101010#6 (codePair j),
          .mov p 0b101011#6 (codePair j), .mov p 0b101101#6 0b101101#6, .mov p 0b101110#6 (codePair j),
          .mov p (codePair i) 0b101101#6, .mov p (codePair i) 0b101110#6], exec row s = .refused .dmaAccess)

/-- MOV GRj, INTR shows each request at its place, the DMA requests at theirs, and changes nothing else but the counter (R33,
R173, R302). -/
def Obligations.IntrShowsTheRequests : Prop :=
  ∀ (p : Bool) (j : RegIx) (s : State), PAllowed p s →
    ∃ v, exec (.mov p (codeGr j) 0b011110#6) s = .next { s.setGr j v with draws := s.draws + 1 } ∧
      (∀ n : Irq, v.getLsbD (s.par.intrLayout.pos[(Irq.row n).val]).val = s.req n) ∧
      ∀ b : Fin 32, b ∉ s.par.intrLayout.pos.toList → s.par.intrLayout.dmaMask.getLsbD b.val = true →
        v.getLsbD b.val = s.dmaRequests.getLsbD b.val

/-- LDC completes for every legal 32-bit code and writes the constant (DMA registers as DMA_MODEL says, log 27); a 64-bit code
is refused (R42, R174, R175, R176, R336). Log 27: R36 and R336 refuse an access that could start a DMA transfer by default
(DMA_MODEL = none, the launch value); what it does under DMA_MODEL = agent is the model's choice (DESIGN CHOICE, unsafe). -/
def Obligations.ConstantsReachEveryDestination : Prop :=
  ∀ (p : Bool) (r : RegCode) (d : Dst) (k : Word) (s : State), PAllowed p s → dstOf r = some d →
    (d.wide = false → DmaAllowed d.touchesDma s → (d.transfers = true → s.pending = none) →
      ∃ t, exec (.ldc p r k) s = .next t ∧ TransferWrites s t d (k.zeroExtend 64) [] ∧ t.draws = s.draws) ∧
    (d.wide = false → d.touchesDma = true → s.par.dmaModel = .none → exec (.ldc p r k) s = .refused .dmaAccess) ∧
    (d.wide = true → exec (.ldc p r k) s = .refused .constantWidth)

/-- PSWRSET sets and PSWRRST clears exactly the bits of PSWR that the mask names, and nothing else (R32, R177, R178, R179). -/
def Obligations.PswrSetAndResetByMask : Prop :=
  ∀ (p : Bool) (k : Word) (s : State), PAllowed p s →
    ∃ x y : Word, exec (.pswrSet p k) s = .next { s with pswr := x } ∧ exec (.pswrRst p k) s = .next { s with pswr := y } ∧
      ∀ b, b < 32 → x.getLsbD b = (k.getLsbD b || s.pswr.getLsbD b) ∧ y.getLsbD b = (!k.getLsbD b && s.pswr.getLsbD b)

/-- Table 5-3: what AR[j] takes in ARM.R, for every ARi, GRi and ARj, and the reserved code (R191). -/
def Obligations.ArmRegisterModes : Prop :=
  ∀ (p : Bool) (i : RegIx) (j : Fin 4) (dst : RegIx) (s : State), PAllowed p s → dst.val = 4 * (i.val / 4) + j.val →
    exec (.armR p .ar i j) s = .next (s.setAr dst (s.readAr i)) ∧
      exec (.armR p .arAddGr i j) s = .next (s.setAr dst (s.readAr i + s.readGr i)) ∧
      exec (.armR p .gr i j) s = .next (s.setAr dst (s.readGr i)) ∧
      exec (.reservedRm11 p i j) s = .fault .illegalInstruction

/-- Table 5-4: what AR[j] takes in ARM.I, for every ARi, constant and ARj, and the reserved code (R192). -/
def Obligations.ArmConstantModes : Prop :=
  ∀ (p : Bool) (i : RegIx) (j : Fin 4) (k : Word) (dst : RegIx) (s : State), PAllowed p s →
    dst.val = 4 * (i.val / 4) + j.val →
    exec (.armI p .ar i j k) s = .next (s.setAr dst (s.readAr i)) ∧
      exec (.armI p .arAddK i j k) s = .next (s.setAr dst (s.readAr i + k)) ∧
      exec (.armI p .k i j k) s = .next (s.setAr dst k) ∧
      exec (.reservedRmc11 p i j k) s = .fault .illegalInstruction

/-- NOP.R, NOP.I and the null OP change nothing; the null OP adds nothing to a transfer part, also under SHIFT_FLAGS = store
(log 41) (R134, R195, R196, R248). Log 41: R248 derives the null OP for SHIFT_FLAGS = none; that it stores no flags under
store as well is the model's reading (DEDUCED). -/
def Obligations.NopsChangeNothing : Prop :=
  ∀ (p : Bool) (k : Word) (s : State),
    (PAllowed p s → exec (.nopR p) s = .next s ∧ exec (.nopI p k) s = .next s) ∧
      ∀ (r : RegIx) (t : Instr), t.isTransfer = true → exec (.rot 0 r r t) s = exec t s

/-- Table 5-5: the target of JMP.R in each mode (R213). -/
def Obligations.JumpRegisterTargets : Prop :=
  ∀ (p : Bool) (i : RegIx) (cond : Cond) (s : State), PAllowed p s → condHolds cond s.flags = true → s.pending = none →
    exec (.jmpR p .ar i cond) s = .next (s.jumping (s.readAr i)) ∧
      exec (.jmpR p .arAddGr i cond) s = .next (s.jumping (s.readAr i + s.readGr i)) ∧
      exec (.jmpR p .gr i cond) s = .next (s.jumping (s.readGr i)) ∧
      exec (.jmpR p .pcAddGr i cond) s = .next (s.jumping (s.pcRead + s.readGr i))

/-- Table 5-6: the target of JMP.I in each mode (R214). -/
def Obligations.JumpConstantTargets : Prop :=
  ∀ (p : Bool) (i : RegIx) (cond : Cond) (k : Word) (s : State), PAllowed p s → condHolds cond s.flags = true →
    s.pending = none →
    exec (.jmpI p .ar i cond k) s = .next (s.jumping (s.readAr i)) ∧
      exec (.jmpI p .arAddK i cond k) s = .next (s.jumping (s.readAr i + k)) ∧
      exec (.jmpI p .k i cond k) s = .next (s.jumping k) ∧
      exec (.jmpI p .pcAddK i cond k) s = .next (s.jumping (s.pcRead + k))

/-- Table 5-7: each of the sixteen condition codes on the four flags (R210, R211). -/
def Obligations.ConditionsAreTheTable : Prop :=
  ∀ f : Flags,
    (condHolds (decodeCond 0b0000#4) f ↔ f.c = false) ∧ (condHolds (decodeCond 0b0001#4) f ↔ f.v = false) ∧
      (condHolds (decodeCond 0b0010#4) f ↔ (f.n || f.z) = false) ∧ (condHolds (decodeCond 0b0011#4) f ↔ f.n = false) ∧
      (condHolds (decodeCond 0b0100#4) f ↔ ((f.v ^^ f.n) || f.z) = false) ∧
      (condHolds (decodeCond 0b0101#4) f ↔ (f.v ^^ f.n) = false) ∧ (condHolds (decodeCond 0b0110#4) f ↔ f.z = false) ∧
      condHolds (decodeCond 0b0111#4) f ∧
      (condHolds (decodeCond 0b1000#4) f ↔ f.c = true) ∧ (condHolds (decodeCond 0b1001#4) f ↔ f.v = true) ∧
      (condHolds (decodeCond 0b1010#4) f ↔ (f.n || f.z) = true) ∧ (condHolds (decodeCond 0b1011#4) f ↔ f.n = true) ∧
      (condHolds (decodeCond 0b1100#4) f ↔ ((f.v ^^ f.n) || f.z) = true) ∧
      (condHolds (decodeCond 0b1101#4) f ↔ (f.v ^^ f.n) = true) ∧ (condHolds (decodeCond 0b1110#4) f ↔ f.z = true) ∧
      ¬ condHolds (decodeCond 0b1111#4) f

/-- A control instruction with a false condition changes nothing, in delay slots too; any OP part beside it does what it does
alone (R228, R229, R230). -/
def Obligations.FalseConditionDoesNothing : Prop :=
  ∀ (p : Bool) (pm : PM) (pmc : PMC) (i : RegIx) (cond : Cond) (k : Word) (s : State), condHolds cond s.flags = false →
    ∀ t ∈ [Instr.jmpR p pm i cond, .callR p pm i cond, .jmpI p pmc i cond k, .callI p pmc i cond k, .ret p cond,
        .iret p cond],
      (PAllowed p s → exec t s = .next s) ∧
        ∀ row : Instr, row.transferOf = t → exec row s = exec row.opAlone s

/-- CALL.R and CALL.I push { PSWR, return address } at AR7 by STACK_DIR, PAIR_ORDER and CALL_RETURN_PC, move AR7, decide the
transfer (R217, R219, R220, R221, R222). Log 30: that CALL_RETURN_PC, where it is not the default of R222, is a constant
offset from the call's fetch word is the model's choice. -/
def Obligations.CallsPushAndTransfer : Prop :=
  ∀ (p : Bool) (i : RegIx) (cond : Cond) (s : State), PAllowed p s → condHolds cond s.flags = true → s.pending = none →
    Accessible s (if s.par.stackDir = .up then s.readAr 7 else s.readAr 7 - 2#32) true →
    ∀ ret : Word, (s.par.callReturnPc = .afterDelaySlots → ret = s.pc + 2#32 + 2#32 * BitVec.ofNat 32 s.par.delayWords) →
    (∀ k, s.par.callReturnPc = .offset k → ret = s.pc + k) →
    let calls (row : Instr) (target : Word) : Prop :=
      ∃ t, exec row s = .next t ∧ Pushed s t ret ∧
        t.pending = some { target := target, words := s.par.delayWords } ∧
        t = { s with ar := t.ar, mem := t.mem, stored := t.stored, pending := t.pending }
    calls (.callR p .ar i cond) (s.readAr i) ∧ calls (.callR p .arAddGr i cond) (s.readAr i + s.readGr i) ∧
      calls (.callR p .gr i cond) (s.readGr i) ∧ calls (.callR p .pcAddGr i cond) (s.pcRead + s.readGr i) ∧
      ∀ k : Word, calls (.callI p .ar i cond k) (s.readAr i) ∧ calls (.callI p .arAddK i cond k) (s.readAr i + k) ∧
        calls (.callI p .k i cond k) k ∧ calls (.callI p .pcAddK i cond k) (s.pcRead + k)

/-- RET pops PC and IRET pops PC and PSWR, by STACK_DIR and PAIR_ORDER, and both move AR7 by 2 (R220, R223, R224, R225, R314).
-/
def Obligations.ReturnsPopAndTransfer : Prop :=
  ∀ (p : Bool) (cond : Cond) (s : State), PAllowed p s → condHolds cond s.flags = true → s.pending = none →
    let a : Word := if s.par.stackDir = .up then s.readAr 7 - 2#32 else s.readAr 7
    let sp : Word := if s.par.stackDir = .up then s.readAr 7 - 2#32 else s.readAr 7 + 2#32
    let even := s.word (a &&& 0xFFFFFFFE#32)
    let odd := s.word (a ||| 1#32)
    Accessible s a true →
      (s.par.pairOrder = .firstHigh →
        exec (.ret p cond) s = .next ((s.setAr 7 sp).jumping even) ∧
          exec (.iret p cond) s = .next ({ s.setAr 7 sp with pswr := odd }.jumping even)) ∧
      (s.par.pairOrder = .firstLow →
        exec (.ret p cond) s = .next ((s.setAr 7 sp).jumping odd) ∧
          exec (.iret p cond) s = .next ({ s.setAr 7 sp with pswr := even }.jumping odd))

/-- A transfer decided while one is pending is refused: jumps, calls, returns, writes of PC; before any memory access (log 31,
33) (R174, R230, R359). Log 31 and 33: that this refusal comes first where the address is also unbacked (R73) or a device
(R71) is the model's order of stops, not the spec's. -/
def Obligations.TransfersInDelaySlotsAreRefused : Prop :=
  ∀ (p : Bool) (pm : PM) (pmc : PMC) (am : AM) (amc : AMC) (i : RegIx) (cond : Cond) (k : Word) (s : State),
    PAllowed p s → s.pending ≠ none →
    (∀ (rs : RegCode) (x : Src), srcOf rs = some x →
      (x.wide = false → exec (.mov p 0b001111#6 rs) s = .refused .transferInDelaySlot) ∧
        (x.wide = true → DmaAllowed x.touchesDma s → exec (.mov p 0b101111#6 rs) s = .refused .transferInDelaySlot)) ∧
    (condHolds cond s.flags = true →
      ∀ t ∈ [Instr.jmpR p pm i cond, .callR p pm i cond, .jmpI p pmc i cond k, .callI p pmc i cond k, .ret p cond,
          .iret p cond], exec t s = .refused .transferInDelaySlot) ∧
      ∀ t ∈ [Instr.ldc p 0b001111#6 k,
          .ldR p am i 0b001111#6, .ldR p am i 0b101111#6, .ldI p amc i 0b001111#6 k, .ldI p amc i 0b101111#6 k],
        exec t s = .refused .transferInDelaySlot

/-- The ends of n fetch words move PC on by 2 each while a transfer is pending; the next end sets PC to its target (no
instruction runs) (R27, R126, R212). -/
def Obligations.DelayedTransferArrives : Prop :=
  ∀ (s : State) (target : Word) (n : Nat), s.pending = some { target := target, words := n } →
    (∀ k, k ≤ n → (State.nextWord^[k] s).pc = s.pc + 2#32 * BitVec.ofNat 32 k ∧
      (State.nextWord^[k] s).pending = some { target := target, words := n - k }) ∧
    State.nextWord^[n + 1] s = { s with slot := false, pc := target, pending := none }

/-- RET after CALL pops what the call pushed: AR7 is back, and the transfer goes to the call's return address (R221, R222,
R225). Log 30: another CALL_RETURN_PC than the default of R222 is a constant offset. -/
def Obligations.CallThenReturnRestoresTheStack : Prop :=
  ∀ (p : Bool) (i : RegIx) (k : Word) (s t : State) (pc pswr : Word), PAllowed p s → s.pending = none →
    exec (.callI p .k i .al k) s = .next t →
    ∀ ret : Word, (s.par.callReturnPc = .afterDelaySlots → ret = s.pc + 2#32 + 2#32 * BitVec.ofNat 32 s.par.delayWords) →
    (∀ k, s.par.callReturnPc = .offset k → ret = s.pc + k) →
    let back : State := { t with pending := none, pc := pc, pswr := pswr }
    ∃ u v, exec (.ret p .al) back = .next u ∧ exec (.iret p .al) back = .next v ∧ u.ar = s.ar ∧ v.ar = s.ar ∧
      u.pswr = pswr ∧ v.pswr = s.pswr ∧ u.pending = v.pending ∧
      u.pending = some { target := ret, words := s.par.delayWords }

/-- ROT, LSH and ASH, bit by bit, for the direction and distance that SHIFT_DECODE gives the count field, beside every transfer
part (R245, R246, R247, R254, R255, R256). -/
def Obligations.ShiftsBitByBit : Prop :=
  ∀ (count : BitVec 6) (src dst : RegIx) (dir : Dir) (n : Fin 33) (s : State), s.par.shiftFlags = .none →
    (count = 0#6 → n = 0) → (count ≠ 0#6 → s.par.shiftTable[count.toNat] = (dir, n)) →
    ∃ r l a : Word,
      (¬ (count = 0#6 ∧ src = dst) → OpRuns (.rot count src dst) s [dst] false fun u => u.setGr dst r) ∧
      OpRuns (.lsh count src dst) s [dst] false (fun u => u.setGr dst l) ∧
      OpRuns (.ash count src dst) s [dst] false (fun u => u.setGr dst a) ∧
      ∀ b, b < 32 →
        let x (k : Nat) := (s.readGr src).getLsbD k
        (dir = .left → r.getLsbD ((b + n.val) % 32) = x b ∧ l.getLsbD b = (decide (n.val ≤ b) && x (b - n.val)) ∧
          a.getLsbD b = l.getLsbD b) ∧
        (dir = .right → r.getLsbD b = x ((b + n.val) % 32) ∧ l.getLsbD b = x (b + n.val) ∧
          a.getLsbD b = if b + n.val < 32 then x (b + n.val) else x 31)

/-- Under SHIFT_FLAGS = store a shift also stores N and Z of its result; C and V are left open (R245, R250). -/
def Obligations.ShiftsThatStoreFlags : Prop :=
  ∀ (count : BitVec 6) (src dst : RegIx) (s : State), s.par.shiftFlags = .store →
    ∃ c v : Bool,
      let stores (row : Instr → Instr) (r : Word) : Prop :=
        OpRuns row s [dst] true fun u =>
          { u.setGr dst r with
            pswr := storeFlags s.par.pswrLayout u.pswr { n := r.getLsbD 31, z := decide (r = 0), v := v, c := c }
            draws := s.draws + 1 }
      let x := s.readGr src
      let dir := (shiftDecode s.par count).1
      let n := (shiftDecode s.par count).2.val
      (¬ (count = 0#6 ∧ src = dst) → stores (.rot count src dst) (rotate x dir n)) ∧
        stores (.lsh count src dst) (shiftLogical x dir n) ∧ stores (.ash count src dst) (shiftArithmetical x dir n)

/-- LSHC copies for a zero count (storing N and Z under SHIFT_FLAGS = store: log 43) and is refused for any other (R245, R257).
Log 43: under SHIFT_FLAGS = store R245 has every shift store flags and R257 says that a zero-count LSHC stores none; that it
stores them is the model's choice (DESIGN CHOICE). -/
def Obligations.ShiftThroughCarry : Prop :=
  ∀ (src dst : RegIx) (s : State),
    (s.par.shiftFlags = .none → OpRuns (.lshc 0 src dst) s [dst] false fun u => u.setGr dst (s.readGr src)) ∧
      (s.par.shiftFlags = .store →
        ∃ c v : Bool, OpRuns (.lshc 0 src dst) s [dst] true fun u =>
          { u.setGr dst (s.readGr src) with
            pswr := storeFlags s.par.pswrLayout u.pswr
              { n := (s.readGr src).getLsbD 31, z := decide (s.readGr src = 0), v := v, c := c }
            draws := s.draws + 1 }) ∧
      ∀ (count : BitVec 6) (p : Bool), count ≠ 0#6 → PAllowed p s →
        exec (.lshc count src dst (.nopR p)) s = .refused .shiftThroughCarry

/-- LOG.0.W to LOG.15.W: each bit of GRdst is LOP_MAP's function of the bits of GRsrc2 and GRsrc1; PSWR is not touched (R243,
R258, R259). -/
def Obligations.LogicalWritesBitByBit : Prop :=
  ∀ (s2 s1 d : RegIx) (s : State), ∀ row ∈ logicalRows,
    ∃ r : Word, OpRuns (row.2.1 s2 s1 d) s [d] false (fun u => u.setGr d r) ∧
      ∀ b, b < 32 → r.getLsbD b = (s.par.lopTable[row.1.toNat]).getLsbD
        (2 * ((s.readGr s2).getLsbD b).toNat + ((s.readGr s1).getLsbD b).toNat)

/-- LOG.0.F to LOG.15.F: N and Z of the result are stored, C and V are left open, no register is written (R243, R250, R258). -/
def Obligations.LogicalFlags : Prop :=
  ∀ (s2 s1 d : RegIx) (s : State), ∀ row ∈ logicalRows,
    ∃ (r : Word) (c v : Bool),
      OpRuns (row.2.2 s2 s1 d) s [] true (fun u =>
        { u with
          pswr := storeFlags s.par.pswrLayout u.pswr { n := r.getLsbD 31, z := decide (r = 0), v := v, c := c }
          draws := s.draws + 1 }) ∧
      ∀ b, b < 32 → r.getLsbD b = (s.par.lopTable[row.1.toNat]).getLsbD
        (2 * ((s.readGr s2).getLsbD b).toNat + ((s.readGr s1).getLsbD b).toNat)

/-- The adder: the sum modulo 2^32, the carry out as an unsigned overflow, V as a signed overflow of the exact sum (R251, R252,
R253). -/
def Obligations.AdderIsExact : Prop :=
  ∀ (x y : Word) (cin : Bool),
    (adder x y cin).res.toNat = (x.toNat + y.toNat + cin.toNat) % 2 ^ 32 ∧
      ((adder x y cin).c = true ↔ 2 ^ 32 ≤ x.toNat + y.toNat + cin.toNat) ∧
      ((adder x y cin).v = true ↔
        ¬ (-2 ^ 31 ≤ x.toInt + y.toInt + cin.toNat ∧ x.toInt + y.toInt + cin.toNat ≤ 2 ^ 31 - 1))

/-- SUB.W to ADDC.W and NEG.W write the adder's result to GRdst and leave PSWR; interrupt 2 is requested only under on_any_V
(R243, R260, R273, R274). -/
def Obligations.ArithmeticWritesTheResult : Prop :=
  ∀ (s2 s1 d : RegIx) (s : State), ∀ row ∈ adderRows,
    let x := row.2.2 (s.readGr s2) (s.readGr s1) s.flags.c
    let r := adder x.1 x.2.1 x.2.2
    OpRuns (row.1 s2 s1 d) s [d] false fun u =>
      if r.v = true ∧ s.par.overflowIrq = .onAnyV then (u.setGr d r.res).raise .overflow else u.setGr d r.res

/-- SUB.F to ADDC.F and NEG.F store N, Z, V, C of the adder call and write no register; an overflow requests interrupt 2 unless
never (R243, R250, R251, R252, R260, R273, R274). -/
def Obligations.ArithmeticStoresTheFlags : Prop :=
  ∀ (s2 s1 d : RegIx) (s : State), ∀ row ∈ adderRows,
    let x := row.2.2 (s.readGr s2) (s.readGr s1) s.flags.c
    let r := adder x.1 x.2.1 x.2.2
    OpRuns (row.2.1 s2 s1 d) s [] true fun u =>
      let stored : State :=
        { u with pswr := storeFlags s.par.pswrLayout u.pswr { n := r.res.getLsbD 31, z := decide (r.res = 0), v := r.v, c := r.c } }
      if r.v = true ∧ s.par.overflowIrq ≠ .never then stored.raise .overflow else stored

/-- The flags of SUB, ADD, INC, DEC and NEG in terms of the operands as numbers (R261, R263, R265, R267, R271, R275). -/
def Obligations.FlagsOfPlainArithmetic : Prop :=
  ∀ (p : Bool) (s2 s1 d : RegIx) (s : State), PAllowed p s →
    let a := s.readGr s2
    let b := s.readGr s1
    let fits (z : Int) : Prop := -2 ^ 31 ≤ z ∧ z ≤ 2 ^ 31 - 1
    let flagged (row : Instr) (r : Word) (carry overflow : Prop) : Prop :=
      ∃ t, exec row s = .next t ∧ t.gr = s.gr ∧ t.flags.n = r.getLsbD 31 ∧ (t.flags.z = true ↔ r = 0) ∧
        (t.flags.c = true ↔ carry) ∧ (t.flags.v = true ↔ overflow)
    flagged (.subF s2 s1 d (.nopR p)) (a - b) (b.toNat ≤ a.toNat) (¬ fits (a.toInt - b.toInt)) ∧
      flagged (.addF s2 s1 d (.nopR p)) (a + b) (2 ^ 32 ≤ a.toNat + b.toNat) (¬ fits (a.toInt + b.toInt)) ∧
      flagged (.incF s2 s1 d (.nopR p)) (a + 1#32) (a = 0xFFFFFFFF#32) (a = 0x7FFFFFFF#32) ∧
      flagged (.decF s2 s1 d (.nopR p)) (a - 1#32) (a ≠ 0) (a = 0x80000000#32) ∧
      flagged (.negF s2 s1 d (.nopR p)) (-a) (a = 0) (a = 0x80000000#32)

/-- After SUB.F the conditions compare GRsrc2 with GRsrc1: EQ, NE, CS, CC unsigned, GE, LT, GT, LE signed (R211, R252, R261). -/
def Obligations.ComparisonConditions : Prop :=
  ∀ (p : Bool) (s2 s1 d : RegIx) (s : State), PAllowed p s →
    let a := s.readGr s2
    let b := s.readGr s1
    ∃ t, exec (.subF s2 s1 d (.nopR p)) s = .next t ∧
      (condHolds .eq t.flags = true ↔ a = b) ∧ (condHolds .ne t.flags = true ↔ a ≠ b) ∧
      (condHolds .cs t.flags = true ↔ b.toNat ≤ a.toNat) ∧ (condHolds .cc t.flags = true ↔ a.toNat < b.toNat) ∧
      (condHolds .ge t.flags = true ↔ b.toInt ≤ a.toInt) ∧ (condHolds .lt t.flags = true ↔ a.toInt < b.toInt) ∧
      (condHolds .gt t.flags = true ↔ b.toInt < a.toInt) ∧ (condHolds .le t.flags = true ↔ a.toInt ≤ b.toInt)

/-- MULF and MULS complete by an unknown MUL_STEP: .W writes GRdst (and what others it gives), .F stores its flags only (log 14)
(R243, R250, R269, R270, R273). Log 14: R269 and R270 refuse without a MUL_STEP; that the steps complete with an unknown
one, and keep to R243 (what W writes) and R273, is the model's choice (DESIGN CHOICE, unsafe for the frame). -/
def Obligations.MultiplySteps : Prop :=
  ∀ row ∈ multiplyRows, ∀ d : RegIx,
    ∃ (w : Word → Word → Word → Flags → Word × List (RegIx × Word) × Bool) (f : Word → Word → Word → Flags → Flags),
      (∀ x y z c, ∀ m ∈ (w x y z c).2.1, m.1 ≠ d) ∧
      ∀ (s2 s1 : RegIx) (s : State),
        let step := w (s.readGr s2) (s.readGr s1) (s.readGr d) s.flags
        let flags := f (s.readGr s2) (s.readGr s1) (s.readGr d) s.flags
        OpRuns (row.2.1 s2 s1 d) s (d :: step.2.1.map Prod.fst) false (fun u =>
          let written := (u.setGr d step.1).setGrs step.2.1
          if step.2.2 = true ∧ s.par.overflowIrq = .onAnyV then written.raise .overflow else written) ∧
        OpRuns (row.2.2 s2 s1 d) s [] true (fun u =>
          let stored : State := { u with pswr := storeFlags s.par.pswrLayout u.pswr flags }
          if flags.v = true ∧ s.par.overflowIrq ≠ .never then stored.raise .overflow else stored)

/-- W = 11 under both: GRdst, flags, and interrupt 2 on an overflow (log 11: the model's choice); refused under refuse (MULF,
MULS: log 14) (R244, R269, R270, R273). Log 11: R273 and R274 give the request under on_stored_V for W = 10 only; that an
overflow with W = 11, which stores V too, requests interrupt 2 under on_stored_V is the model's choice (DESIGN CHOICE,
unsafe), as is launching with both. Log 14: that the multiplication steps complete, with an unknown MUL_STEP, is the model's
choice. -/
def Obligations.WriteAndStoreTogether : Prop :=
  ∀ (s2 s1 d : RegIx) (s : State),
    (s.par.w11Mode = .both →
      (∀ (aop : BitVec 4) (f : Word → Word → Bool → Word × Word × Bool),
        (aop, f) ∈ [(0#4, fun a b _ => (a, ~~~b, true)), (1#4, fun a b c => (a, ~~~b, c)), (2#4, fun a _ _ => (a, 0, true)),
          (3#4, fun a _ c => (a, 0, c)), (4#4, fun a _ _ => (a, 0xFFFFFFFF, false)), (5#4, fun a _ c => (a, 0xFFFFFFFF, c)),
          (6#4, fun a b _ => (a, b, false)), (7#4, fun a b c => (a, b, c)), (12#4, fun a _ _ => (0, ~~~a, true))] →
        let x := f (s.readGr s2) (s.readGr s1) s.flags.c
        let r := adder x.1 x.2.1 x.2.2
        OpRuns (.w11 true aop s2 s1 d) s [d] true fun u =>
          let stored : State := { u.setGr d r.res with pswr := storeFlags s.par.pswrLayout u.pswr r.flags }
          if r.v = true ∧ s.par.overflowIrq ≠ .never then stored.raise .overflow else stored) ∧
      (∀ aop : BitVec 4, aop = 8#4 ∨ aop = 9#4 → ∃ (r : Word) (more : List (RegIx × Word)) (f : Flags),
        (∀ m ∈ more, m.1 ≠ d) ∧
        OpRuns (.w11 true aop s2 s1 d) s (d :: more.map Prod.fst) true (fun u =>
          let stored : State := { (u.setGr d r).setGrs more with pswr := storeFlags s.par.pswrLayout u.pswr f }
          if f.v = true ∧ s.par.overflowIrq ≠ .never then stored.raise .overflow else stored)) ∧
      ∀ lop : BitVec 4, ∃ (r : Word) (c v : Bool),
        OpRuns (.w11 false lop s2 s1 d) s [d] true (fun u =>
          { u.setGr d r with
            pswr := storeFlags s.par.pswrLayout u.pswr { n := r.getLsbD 31, z := decide (r = 0), v := v, c := c }
            draws := s.draws + 1 }) ∧
        ∀ b, b < 32 → r.getLsbD b = (s.par.lopTable[lop.toNat]).getLsbD
          (2 * ((s.readGr s2).getLsbD b).toNat + ((s.readGr s1).getLsbD b).toNat)) ∧
    (s.par.w11Mode = .refuse → ∀ (p arith : Bool) (code : BitVec 4), PAllowed p s →
      (arith = true → isReservedAop code = false) →
        exec (.w11 arith code s2 s1 d (.nopR p)) s = .refused .undefinedW)

/-- Every instruction word does what its two parts do alone, both from the state before it, or is refused where they collide
(R14, R125, R240, R363). -/
def Obligations.TheTwoPartsActTogether : Prop :=
  ∀ (i : Instr) (s a b : State), i.wellFormed = true → exec i.transferOf s = .next a → exec i.opAlone s = .next b →
    (PartsCollide i.transferOf s (opTargets i s) (i.storesFlags s.par.shiftFlags) → exec i s = .refused .writeConflict) ∧
      (¬ PartsCollide i.transferOf s (opTargets i s) (i.storesFlags s.par.shiftFlags) → exec i s = .next (bothParts s a b))

/-- A step with no interrupt to take executes the instruction that the words at PC decode to, then moves on (R66, R120, R126).
The second clause, the first step from reset, rests on the model's choices: NOP.R beside an OP row (log 2), all of memory
backed (log 5), no request (log 6), the placed word (log 8), no input (log 28). -/
def Obligations.StepRunsTheDecodedInstruction : Prop :=
  (∀ (s s1 : State) (i : Instr), irqDecision s.agentsAct = (none, s1) → Accessible s1 s1.pc true →
    s1.codeStored = false →
    let f : DWord := s1.word (s1.pc ||| 1#32) ++ s1.word (s1.pc &&& 0xFFFFFFFE#32)
    decodeFetch f s1.slot = some i →
      step s = andThen (exec i s1) fun t => .next (afterInstr (isLongWord (fetchedWord f s1.slot)) s1 t)) ∧
  ∀ (nbits w : Nat) (i : Instr), decodeTableWord nbits w = some i →
    let s := State.reset.withFetchWord nbits w
    step s = andThen (exec i s) fun t => .next (afterInstr (isLongWord (fetchedWord (tableFetchWord nbits w) false)) s t)

/-- After an instruction: the high half, or PC + 2, or the end of a delay; and interrupt 10 is requested by the trace predicate
alone (log 25) (R25, R27, R90, R126, R212, R318). -/
def Obligations.MovingOnFollowsTheHalves : Prop :=
  ∀ (long : Bool) (s t : State),
    let u := afterInstr long s t
    (∀ n, n ≠ .trace → u.req n = t.req n) ∧
      (u.req .trace = true ↔ t.req .trace = true ∨
        ∃ on : PswrPredicate, t.par.traceMode = .predicate on ∧ ∃ m ∈ on, t.pswr &&& m.1 = m.2) ∧
      (long = false → s.slot = false → (t.pending = s.pending ∨ t.par.delayRestOfWord = true) →
        u = { t with slot := true, requests := u.requests }) ∧
      (long = true ∨ s.slot = true ∨ (s.pending = none ∧ t.pending ≠ none ∧ t.par.delayRestOfWord = false) →
        (t.pending = none → u = { t with slot := false, pc := t.pc + 2#32, requests := u.requests }) ∧
          ∀ (target : Word) (n : Nat), t.pending = some { target := target, words := n } →
            (n = 0 → u = { t with slot := false, pc := target, pending := none, requests := u.requests }) ∧
              (n ≠ 0 → u = { t with
                slot := false, pc := t.pc + 2#32, pending := some { target := target, words := n - 1 }
                requests := u.requests }))

/-- Entering interrupt n pushes { PSWR, PC }, clears its request only, makes PSWR IRQ_ENTRY_PSWR (log 22), goes to 8 * (n - 1)
at once (R301, R310, R311, R312). Log 22: the identity is the spec's default (R310); how another function is written down is
the model's choice. -/
def Obligations.InterruptEntry : Prop :=
  (∀ (s s1 : State) (n : Irq), irqDecision s.agentsAct = (some n, s1) → step s = enterInterrupt n s1) ∧
  ∀ (s : State) (n : Irq) (start : Word),
    (n, start) ∈ [(Irq.timer0, 0x00#32), (.overflow, 0x08#32), (.illegal, 0x10#32), (.external, 0x18#32),
      (.dmaIn1, 0x20#32), (.dmaIn0, 0x28#32), (.dmaOut1, 0x30#32), (.dmaOut0, 0x38#32), (.timer1, 0x40#32),
      (.trace, 0x48#32)] →
    Accessible s (if s.par.stackDir = .up then s.readAr 7 else s.readAr 7 - 2#32) true →
    ∃ t, enterInterrupt n s = .next t ∧ Pushed s t s.pc ∧ t.req n = false ∧ (∀ m, m ≠ n → t.req m = s.req m) ∧
      (s.par.irqEntryPswr = .identity → t.pswr = s.pswr) ∧
      (∀ bits, s.par.irqEntryPswr = .function bits → ∀ b : Fin 32,
        (t.pswr.getLsbD b.val = true ↔ ∃ m ∈ bits[(Irq.row n).val][b.val], s.pswr &&& m.1 = m.2)) ∧
      t = { s with
            ar := t.ar, mem := t.mem, stored := t.stored, requests := t.requests, pswr := t.pswr, pc := start
            slot := false }

/-- The enabled request with the lowest number is taken, when its wait (log 21) is over, and none inside a fetch word or a delay
(R303, R304, R309, R313). Log 21: the wait (0 takes, a longer one counts down, it is dropped when nothing is enabled) is the
model's way to let every moment R309 allows be taken (DESIGN CHOICE). -/
def Obligations.HighestPriorityRequestIsTaken : Prop :=
  (∀ s : State, s.slot = false → s.pending = none →
    (∀ n : Irq, s.req n = true → s.irqEnabled n = true →
      (∀ m, Irq.row m < Irq.row n → ¬ (s.req m = true ∧ s.irqEnabled m = true)) →
      (s.irqWait = some 0 → irqDecision s = (some n, { s with irqWait := none })) ∧
        ∀ k, s.irqWait = some (k + 1) → irqDecision s = (none, { s with irqWait := some k })) ∧
    ((∀ n, ¬ (s.req n = true ∧ s.irqEnabled n = true)) → irqDecision s = (none, { s with irqWait := none }))) ∧
  ∀ s : State,
    (s.slot = true ∨ s.pending ≠ none → irqDecision s = (none, s)) ∧
      ∀ n t, irqDecision s = (some n, t) → s.slot = false ∧ s.pending = none ∧ s.req n = true ∧ s.irqEnabled n = true

/-- An enabled request is taken after finitely many of the points where it can be (by the wait of log 21) (R309). Log 21: R309
says finitely many; the wait that makes it so is the model's choice. -/
def Obligations.EnabledRequestIsTakenInTheEnd : Prop :=
  ∀ (s : State) (n : Irq), s.slot = false → s.pending = none → s.enabledIrq = some n →
    ∃ k, (∀ j, j < k → (irqDecision ((fun x => (irqDecision x).2)^[j] s)).1 = none) ∧
      (irqDecision ((fun x => (irqDecision x).2)^[k] s)).1 = some n

/-- IRET right after an interrupt entry restores AR7 and PSWR, whatever PSWR became, and transfers to the interrupted PC (R224,
R225, R310, R314). -/
def Obligations.InterruptThenReturnRestores : Prop :=
  ∀ (p : Bool) (n : Irq) (s t : State) (pc pswr : Word), PAllowed p s → s.pending = none → enterInterrupt n s = .next t →
    ∃ u, exec (.iret p .al) { t with pc := pc, pswr := pswr } = .next u ∧
      (∀ r : Target, u.regValue r = s.regValue r) ∧
      u.pending = some { target := s.pc, words := s.par.delayWords } ∧
      ∀ b, b ∉ storedWords (if s.par.stackDir = .up then s.readAr 7 else s.readAr 7 - 2#32) true → u.word b = s.word b

/-- Refused: P = 1 under P_MODE = refuse, a long format in the high half, and code stored to since reset (DMA stores too: log
27, 28, 29) (R69, R78, R121, R122, R221, R310, R362). Log 29: R78 and R362 speak of stores by the core; that a word the DMA
agent stores (log 27, 28; of a 64-bit store each word that is plain memory, log 40) is no code either is the model's choice.
-/
def Obligations.RefusedFetchesAndWords : Prop :=
  let notes (s t : State) (words : List Word) : Prop := ∀ n : Nat, n ∈ t.stored ↔ n ∈ s.stored ∨ ∃ b ∈ words, n = b.toNat
  let push (s : State) : Word := if s.par.stackDir = .up then s.readAr 7 else s.readAr 7 - 2#32
  (∀ (i : Instr) (s : State), s.par.pMode = .refuse → parallelOf i = true → exec i s = .refused .parallelBit) ∧
    (∀ s : State, s.slot = true → Accessible s s.pc true → s.codeStored = false →
      isLongWord (s.word (s.pc ||| 1#32)) = true → runInstr s = .refused .longInHighHalf) ∧
    (∀ (i : Instr) (s t : State), exec i s = .next t → ∀ (p : Bool) (j : RegIx),
      (∀ (am : AM) (r : RegCode) (x : Src), i.transferOf = .stR p am j r → srcOf r = some x →
        notes s t (storedWords (amAddress am (s.readAr j) (s.readGr j) (stepOf x.wide)) x.wide)) ∧
      (∀ (amc : AMC) (r : RegCode) (k : Word) (x : Src), i.transferOf = .stI p amc j r k → srcOf r = some x →
        notes s t (storedWords (amcAddress amc (s.readAr j) k) x.wide)) ∧
      ∀ cond : Cond, condHolds cond s.flags = true →
        (∀ pm : PM, i.transferOf = .callR p pm j cond → notes s t (storedWords (push s) true)) ∧
          ∀ (pmc : PMC) (k : Word), i.transferOf = .callI p pmc j cond k → notes s t (storedWords (push s) true)) ∧
    (∀ (n : Irq) (s t : State), enterInterrupt n s = .next t → notes s t (storedWords (push s) true)) ∧
    (∀ s : State, s.par.dmaModel = .agent →
      (∀ a v : Word, Accessible s a false → notes s (applyInput s (.dmaStoreWord a v)) [a]) ∧
      (∀ (a : Word) (v : DWord), ∀ b ∈ storedWords a true, Accessible s b false →
        b.toNat ∈ (applyInput s (.dmaStorePair a v)).stored) ∧
      ∀ (t : State) (now : List Input) (later : List (List Input)), s.inputs = now :: later → step s = .next t →
        (∀ a v : Word, .dmaStoreWord a v ∈ now → Accessible s a false → a.toNat ∈ t.stored) ∧
          ∀ (a : Word) (v : DWord), .dmaStorePair a v ∈ now → ∀ b ∈ storedWords a true, Accessible s b false →
            b.toNat ∈ t.stored) ∧
    (∀ s t : State, step s = .next t → ∀ n ∈ s.stored, n ∈ t.stored) ∧
    ∀ (s : State) (b : Word), b.toNat ∈ s.stored → s.pc &&& 0xFFFFFFFE#32 = b &&& 0xFFFFFFFE#32 →
      Accessible s s.pc true → s.fetch = .refused .selfModifiedCode ∧ runInstr s = .refused .selfModifiedCode

/-- What timers, environment and DMA agent (log 26, 27, 28) do between steps leaves the core's registers and clears no request;
each action (R6, R34, R302, R306, R330, R336). Log 26, 27, 28: that T0 and T1 stay as last written, what a counter does,
what an input can be and what each does under DMA_MODEL = agent are the model's choices (DESIGN CHOICE); R6 and R330 let the
timer block change T0 and T1, where a read is a free value. -/
def Obligations.OtherAgentsLeaveTheCore : Prop :=
  (∀ s : State, ∃ requests dmaRequests t0 t1 dma mem stored,
    s.agentsAct = { s with
      requests := requests, dmaRequests := dmaRequests, t0 := t0, t1 := t1, dma := dma, mem := mem, stored := stored
      inputs := s.inputs.tail }) ∧
  (∀ (s : State) (n : Irq), (s.req n = true → s.agentsAct.req n = true) ∧
    (n = .overflow ∨ n = .illegal ∨ n = .trace → s.agentsAct.req n = s.req n)) ∧
  (∀ s : State, s.par.timerModel = .environment → s.agentsAct.t0 = s.t0 ∧ s.agentsAct.t1 = s.t1) ∧
  (∀ (s : State) (c0 c1 : TimerCounter), s.par.timerModel = .counters c0 c1 →
    ∀ (t : Timer) (c : TimerCounter) (n : Irq), (t, c, n) ∈ [(.t0, c0, .timer0), (.t1, c1, .timer1)] →
      let runs := ∃ m ∈ c.runs, s.pswr &&& m.1 = m.2
      let periodical := ∃ m ∈ c.periodical, s.pswr &&& m.1 = m.2
      let v := s.timer t
      (¬ runs ∨ (c.singleStops = true ∧ v = c.expiry ∧ ¬ periodical) →
        s.agentsAct.timer t = v ∧ s.agentsAct.req n = s.req n) ∧
      (runs ∧ (c.singleStops = true → v = c.expiry → periodical) →
        (v + c.step ≠ c.expiry → s.agentsAct.timer t = v + c.step ∧ s.agentsAct.req n = s.req n) ∧
          (v + c.step = c.expiry → s.agentsAct.req n = true ∧ (periodical → s.agentsAct.timer t = c.reload) ∧
            (¬ periodical → s.agentsAct.timer t = c.expiry)))) ∧
  (∀ s : State, s.par.dmaModel = .none →
    s.agentsAct.mem = s.mem ∧ s.agentsAct.stored = s.stored ∧ s.agentsAct.dma = s.dma ∧
      s.agentsAct.dmaRequests = s.dmaRequests ∧
      ∀ n, n = .dmaIn1 ∨ n = .dmaIn0 ∨ n = .dmaOut1 ∨ n = .dmaOut0 → s.agentsAct.req n = s.req n) ∧
  (∀ (s : State) (q : AsyncIrq) (now : List Input) (later : List (List Input)), s.inputs = now :: later →
    .request q ∈ now →
    q = .external ∨ ((q = .timer0 ∨ q = .timer1) ∧ s.par.timerModel = .environment) ∨
      (q ≠ .timer0 ∧ q ≠ .timer1 ∧ s.par.dmaModel = .agent) →
    s.agentsAct.req (AsyncIrq.irq q) = true) ∧
  ∀ s : State, s.par.dmaModel = .agent →
    (∀ a v : Word, Accessible s a false → ∃ t, applyInput s (.dmaStoreWord a v) = t ∧
      t.memRead a false = .next (v.zeroExtend 64) ∧ (∀ b, b ≠ a → t.word b = s.word b) ∧
      t = { s with mem := t.mem, stored := t.stored }) ∧
    (∀ (a : Word) (v : DWord), Accessible s a true → ∃ t, applyInput s (.dmaStorePair a v) = t ∧
      t.memRead a true = .next v ∧ (∀ b, b ∉ storedWords a true → t.word b = s.word b) ∧
      t = { s with mem := t.mem, stored := t.stored }) ∧
    (∀ (c : Fin 2) (regs : Channel), ∃ t, applyInput s (.dmaChannel c regs) = t ∧ t.channel c = regs ∧
      (∀ e, e ≠ c → t.channel e = s.channel e) ∧ t = { s with dma := t.dma }) ∧
    ∀ bits : Word, applyInput s (.dmaRequests bits) = { s with dmaRequests := bits }
end

