-- ==== Sys2Proof/Laws/Memory.lean ====
section
/-!
SUPPORT. The laws of memory as data: reading after writing, and that every operation keeps the canonical form.
-/

namespace Sys2Proof.Machine

@[simp] theorem Memory.find_write_self (m : Memory) (a : Nat) (v : Word) : Memory.find (Memory.write m a v) a = some v := by
  induction m with
  | nil => simp [Memory.write, Memory.find]
  | cons c rest ih =>
    obtain ⟨b, u⟩ := c
    simp only [Memory.write]
    split
    · simp [Memory.find]
    · split
      · simp [Memory.find]
      · rename_i h1 h2
        simp [Memory.find, h2, ih]

theorem Memory.find_write_ne (m : Memory) {a b : Nat} (v : Word) (h : a ≠ b) :
    Memory.find (Memory.write m a v) b = Memory.find m b := by
  induction m with
  | nil => simp [Memory.write, Memory.find, Ne.symm h]
  | cons c rest ih =>
    obtain ⟨e, u⟩ := c
    simp only [Memory.write]
    split
    · simp [Memory.find, Ne.symm h]
    · split
      · rename_i h1 h2
        subst h2
        simp [Memory.find, Ne.symm h]
      · simp only [Memory.find, ih]

/-- A read after a write of the same word gives the value written. -/
@[simp] theorem Memory.read_write_self (m : Memory) (a : Nat) (v : Word) : Memory.read (Memory.write m a v) a = v := by
  simp [Memory.read]

/-- A write leaves every other word alone. -/
theorem Memory.read_write_ne (m : Memory) {a b : Nat} (v : Word) (h : a ≠ b) :
    Memory.read (Memory.write m a v) b = Memory.read m b := by
  simp [Memory.read, Memory.find_write_ne m v h]

theorem risingBelow_cons {n a : Nat} {as : List Nat} :
    risingBelow n (a :: as) = true ↔ (∀ b ∈ as.head?, a < b) ∧ (as = [] → a < n) ∧ risingBelow n as = true := by
  cases as with
  | nil => simp [risingBelow]
  | cons b rest => simp [risingBelow]

theorem risingBelow_lt {n : Nat} {as : List Nat} (h : risingBelow n as = true) : ∀ a ∈ as, a < n := by
  induction as with
  | nil => simp
  | cons a rest ih =>
    obtain ⟨h1, h2, h3⟩ := risingBelow_cons.1 h
    intro x hx
    rcases List.mem_cons.1 hx with rfl | hx
    · cases rest with
      | nil => exact h2 rfl
      | cons b r => exact lt_trans (h1 b rfl) (ih h3 b (by simp))
    · exact ih h3 x hx

theorem insertAddr_head (a : Nat) (as : List Nat) (x : Nat) (ha : x < a) (hs : ∀ b ∈ as.head?, x < b) :
    ∀ b ∈ (insertAddr a as).head?, x < b := by
  cases as with
  | nil => simpa [insertAddr] using ha
  | cons b rest =>
    have hb : x < b := hs b rfl
    simp only [insertAddr]
    split
    · simpa using ha
    · split <;> simpa using hb

theorem insertAddr_ne_nil (a : Nat) (as : List Nat) : insertAddr a as ≠ [] := by
  cases as with
  | nil => simp [insertAddr]
  | cons b rest => simp only [insertAddr]; split <;> [simp; split <;> simp]

/-- Putting an address in keeps the set of addresses strictly rising. -/
theorem insertAddr_rising {n a : Nat} {as : List Nat} (ha : a < n) (h : risingBelow n as = true) :
    risingBelow n (insertAddr a as) = true := by
  induction as with
  | nil => simpa [insertAddr, risingBelow] using ha
  | cons b rest ih =>
    obtain ⟨h1, h2, h3⟩ := risingBelow_cons.1 h
    simp only [insertAddr]
    split
    · rename_i hab
      exact risingBelow_cons.2 ⟨by simpa using hab, by simp, h⟩
    · split
      · exact h
      · rename_i hab hne
        have hba : b < a := by omega
        exact risingBelow_cons.2 ⟨insertAddr_head a rest b hba h1, fun e => absurd e (insertAddr_ne_nil a rest), ih h3⟩

theorem mem_insertAddr {a b : Nat} {as : List Nat} : b ∈ insertAddr a as ↔ b = a ∨ b ∈ as := by
  induction as with
  | nil => simp [insertAddr]
  | cons c rest ih =>
    simp only [insertAddr]
    split
    · simp
    · split
      · rename_i h1 h2
        subst h2
        simp
      · simp [ih]
        tauto

theorem Memory.addresses_write (m : Memory) (a : Nat) (v : Word) :
    (Memory.write m a v).map Prod.fst = insertAddr a (m.map Prod.fst) := by
  induction m with
  | nil => rfl
  | cons c rest ih =>
    obtain ⟨b, u⟩ := c
    simp only [Memory.write, List.map_cons, insertAddr]
    split
    · rfl
    · split
      · rename_i h1 h2
        subst h2
        rfl
      · simp [ih]

/-- A write keeps the canonical form of memory. -/
theorem Memory.wf_write {m : Memory} {a : Nat} (v : Word) (ha : a < 2 ^ 32) (h : Memory.wf m = true) :
    Memory.wf (Memory.write m a v) = true := by
  simp only [Memory.wf, Memory.addresses_write] at *
  exact insertAddr_rising ha h

end Sys2Proof.Machine
end

