-- ==== Sys2Proof/Laws/State.lean ====
section
/-!
SUPPORT. One lemma per field of State and update of it: the fields an update leaves alone, and what it makes of the one it
writes. Later proofs cite these instead of unfolding a record update.
-/

namespace Sys2Proof.Machine

@[simp] theorem State.setGr_ar (s : State) (i : RegIx) (v : Word) : (s.setGr i v).ar = s.ar := rfl
@[simp] theorem State.setGr_pc (s : State) (i : RegIx) (v : Word) : (s.setGr i v).pc = s.pc := rfl
@[simp] theorem State.setGr_pswr (s : State) (i : RegIx) (v : Word) : (s.setGr i v).pswr = s.pswr := rfl
@[simp] theorem State.setGr_requests (s : State) (i : RegIx) (v : Word) : (s.setGr i v).requests = s.requests := rfl
@[simp] theorem State.setGr_dmaRequests (s : State) (i : RegIx) (v : Word) : (s.setGr i v).dmaRequests = s.dmaRequests := rfl
@[simp] theorem State.setGr_t0 (s : State) (i : RegIx) (v : Word) : (s.setGr i v).t0 = s.t0 := rfl
@[simp] theorem State.setGr_t1 (s : State) (i : RegIx) (v : Word) : (s.setGr i v).t1 = s.t1 := rfl
@[simp] theorem State.setGr_dma (s : State) (i : RegIx) (v : Word) : (s.setGr i v).dma = s.dma := rfl
@[simp] theorem State.setGr_slot (s : State) (i : RegIx) (v : Word) : (s.setGr i v).slot = s.slot := rfl
@[simp] theorem State.setGr_pending (s : State) (i : RegIx) (v : Word) : (s.setGr i v).pending = s.pending := rfl
@[simp] theorem State.setGr_mem (s : State) (i : RegIx) (v : Word) : (s.setGr i v).mem = s.mem := rfl
@[simp] theorem State.setGr_stored (s : State) (i : RegIx) (v : Word) : (s.setGr i v).stored = s.stored := rfl
@[simp] theorem State.setGr_inputs (s : State) (i : RegIx) (v : Word) : (s.setGr i v).inputs = s.inputs := rfl
@[simp] theorem State.setGr_irqWait (s : State) (i : RegIx) (v : Word) : (s.setGr i v).irqWait = s.irqWait := rfl
@[simp] theorem State.setGr_draws (s : State) (i : RegIx) (v : Word) : (s.setGr i v).draws = s.draws := rfl
@[simp] theorem State.setGr_par (s : State) (i : RegIx) (v : Word) : (s.setGr i v).par = s.par := rfl

@[simp] theorem State.setAr_gr (s : State) (i : RegIx) (v : Word) : (s.setAr i v).gr = s.gr := rfl
@[simp] theorem State.setAr_pc (s : State) (i : RegIx) (v : Word) : (s.setAr i v).pc = s.pc := rfl
@[simp] theorem State.setAr_pswr (s : State) (i : RegIx) (v : Word) : (s.setAr i v).pswr = s.pswr := rfl
@[simp] theorem State.setAr_requests (s : State) (i : RegIx) (v : Word) : (s.setAr i v).requests = s.requests := rfl
@[simp] theorem State.setAr_dmaRequests (s : State) (i : RegIx) (v : Word) : (s.setAr i v).dmaRequests = s.dmaRequests := rfl
@[simp] theorem State.setAr_t0 (s : State) (i : RegIx) (v : Word) : (s.setAr i v).t0 = s.t0 := rfl
@[simp] theorem State.setAr_t1 (s : State) (i : RegIx) (v : Word) : (s.setAr i v).t1 = s.t1 := rfl
@[simp] theorem State.setAr_dma (s : State) (i : RegIx) (v : Word) : (s.setAr i v).dma = s.dma := rfl
@[simp] theorem State.setAr_slot (s : State) (i : RegIx) (v : Word) : (s.setAr i v).slot = s.slot := rfl
@[simp] theorem State.setAr_pending (s : State) (i : RegIx) (v : Word) : (s.setAr i v).pending = s.pending := rfl
@[simp] theorem State.setAr_mem (s : State) (i : RegIx) (v : Word) : (s.setAr i v).mem = s.mem := rfl
@[simp] theorem State.setAr_stored (s : State) (i : RegIx) (v : Word) : (s.setAr i v).stored = s.stored := rfl
@[simp] theorem State.setAr_inputs (s : State) (i : RegIx) (v : Word) : (s.setAr i v).inputs = s.inputs := rfl
@[simp] theorem State.setAr_irqWait (s : State) (i : RegIx) (v : Word) : (s.setAr i v).irqWait = s.irqWait := rfl
@[simp] theorem State.setAr_draws (s : State) (i : RegIx) (v : Word) : (s.setAr i v).draws = s.draws := rfl
@[simp] theorem State.setAr_par (s : State) (i : RegIx) (v : Word) : (s.setAr i v).par = s.par := rfl

@[simp] theorem State.setWord_gr (s : State) (a v : Word) : (s.setWord a v).gr = s.gr := rfl
@[simp] theorem State.setWord_ar (s : State) (a v : Word) : (s.setWord a v).ar = s.ar := rfl
@[simp] theorem State.setWord_pc (s : State) (a v : Word) : (s.setWord a v).pc = s.pc := rfl
@[simp] theorem State.setWord_pswr (s : State) (a v : Word) : (s.setWord a v).pswr = s.pswr := rfl
@[simp] theorem State.setWord_requests (s : State) (a v : Word) : (s.setWord a v).requests = s.requests := rfl
@[simp] theorem State.setWord_dmaRequests (s : State) (a v : Word) : (s.setWord a v).dmaRequests = s.dmaRequests := rfl
@[simp] theorem State.setWord_t0 (s : State) (a v : Word) : (s.setWord a v).t0 = s.t0 := rfl
@[simp] theorem State.setWord_t1 (s : State) (a v : Word) : (s.setWord a v).t1 = s.t1 := rfl
@[simp] theorem State.setWord_dma (s : State) (a v : Word) : (s.setWord a v).dma = s.dma := rfl
@[simp] theorem State.setWord_slot (s : State) (a v : Word) : (s.setWord a v).slot = s.slot := rfl
@[simp] theorem State.setWord_pending (s : State) (a v : Word) : (s.setWord a v).pending = s.pending := rfl
@[simp] theorem State.setWord_inputs (s : State) (a v : Word) : (s.setWord a v).inputs = s.inputs := rfl
@[simp] theorem State.setWord_irqWait (s : State) (a v : Word) : (s.setWord a v).irqWait = s.irqWait := rfl
@[simp] theorem State.setWord_draws (s : State) (a v : Word) : (s.setWord a v).draws = s.draws := rfl
@[simp] theorem State.setWord_par (s : State) (a v : Word) : (s.setWord a v).par = s.par := rfl

@[simp] theorem State.setChannel_gr (s : State) (c : Fin 2) (ch : Channel) : (s.setChannel c ch).gr = s.gr := rfl
@[simp] theorem State.setChannel_ar (s : State) (c : Fin 2) (ch : Channel) : (s.setChannel c ch).ar = s.ar := rfl
@[simp] theorem State.setChannel_pc (s : State) (c : Fin 2) (ch : Channel) : (s.setChannel c ch).pc = s.pc := rfl
@[simp] theorem State.setChannel_pswr (s : State) (c : Fin 2) (ch : Channel) : (s.setChannel c ch).pswr = s.pswr := rfl
@[simp] theorem State.setChannel_requests (s : State) (c : Fin 2) (ch : Channel) : (s.setChannel c ch).requests = s.requests := rfl
@[simp] theorem State.setChannel_dmaRequests (s : State) (c : Fin 2) (ch : Channel) : (s.setChannel c ch).dmaRequests = s.dmaRequests := rfl
@[simp] theorem State.setChannel_t0 (s : State) (c : Fin 2) (ch : Channel) : (s.setChannel c ch).t0 = s.t0 := rfl
@[simp] theorem State.setChannel_t1 (s : State) (c : Fin 2) (ch : Channel) : (s.setChannel c ch).t1 = s.t1 := rfl
@[simp] theorem State.setChannel_slot (s : State) (c : Fin 2) (ch : Channel) : (s.setChannel c ch).slot = s.slot := rfl
@[simp] theorem State.setChannel_pending (s : State) (c : Fin 2) (ch : Channel) : (s.setChannel c ch).pending = s.pending := rfl
@[simp] theorem State.setChannel_mem (s : State) (c : Fin 2) (ch : Channel) : (s.setChannel c ch).mem = s.mem := rfl
@[simp] theorem State.setChannel_stored (s : State) (c : Fin 2) (ch : Channel) : (s.setChannel c ch).stored = s.stored := rfl
@[simp] theorem State.setChannel_inputs (s : State) (c : Fin 2) (ch : Channel) : (s.setChannel c ch).inputs = s.inputs := rfl
@[simp] theorem State.setChannel_irqWait (s : State) (c : Fin 2) (ch : Channel) : (s.setChannel c ch).irqWait = s.irqWait := rfl
@[simp] theorem State.setChannel_draws (s : State) (c : Fin 2) (ch : Channel) : (s.setChannel c ch).draws = s.draws := rfl
@[simp] theorem State.setChannel_par (s : State) (c : Fin 2) (ch : Channel) : (s.setChannel c ch).par = s.par := rfl

@[simp] theorem State.setTimer_gr (s : State) (t : Timer) (v : Word) : (s.setTimer t v).gr = s.gr := by cases t <;> rfl
@[simp] theorem State.setTimer_ar (s : State) (t : Timer) (v : Word) : (s.setTimer t v).ar = s.ar := by cases t <;> rfl
@[simp] theorem State.setTimer_pc (s : State) (t : Timer) (v : Word) : (s.setTimer t v).pc = s.pc := by cases t <;> rfl
@[simp] theorem State.setTimer_pswr (s : State) (t : Timer) (v : Word) : (s.setTimer t v).pswr = s.pswr := by cases t <;> rfl
@[simp] theorem State.setTimer_requests (s : State) (t : Timer) (v : Word) : (s.setTimer t v).requests = s.requests := by cases t <;> rfl
@[simp] theorem State.setTimer_dmaRequests (s : State) (t : Timer) (v : Word) : (s.setTimer t v).dmaRequests = s.dmaRequests := by cases t <;> rfl
@[simp] theorem State.setTimer_dma (s : State) (t : Timer) (v : Word) : (s.setTimer t v).dma = s.dma := by cases t <;> rfl
@[simp] theorem State.setTimer_slot (s : State) (t : Timer) (v : Word) : (s.setTimer t v).slot = s.slot := by cases t <;> rfl
@[simp] theorem State.setTimer_pending (s : State) (t : Timer) (v : Word) : (s.setTimer t v).pending = s.pending := by cases t <;> rfl
@[simp] theorem State.setTimer_mem (s : State) (t : Timer) (v : Word) : (s.setTimer t v).mem = s.mem := by cases t <;> rfl
@[simp] theorem State.setTimer_stored (s : State) (t : Timer) (v : Word) : (s.setTimer t v).stored = s.stored := by cases t <;> rfl
@[simp] theorem State.setTimer_inputs (s : State) (t : Timer) (v : Word) : (s.setTimer t v).inputs = s.inputs := by cases t <;> rfl
@[simp] theorem State.setTimer_irqWait (s : State) (t : Timer) (v : Word) : (s.setTimer t v).irqWait = s.irqWait := by cases t <;> rfl
@[simp] theorem State.setTimer_draws (s : State) (t : Timer) (v : Word) : (s.setTimer t v).draws = s.draws := by cases t <;> rfl
@[simp] theorem State.setTimer_par (s : State) (t : Timer) (v : Word) : (s.setTimer t v).par = s.par := by cases t <;> rfl

@[simp] theorem State.raise_gr (s : State) (n : Irq) : (s.raise n).gr = s.gr := rfl
@[simp] theorem State.raise_ar (s : State) (n : Irq) : (s.raise n).ar = s.ar := rfl
@[simp] theorem State.raise_pc (s : State) (n : Irq) : (s.raise n).pc = s.pc := rfl
@[simp] theorem State.raise_pswr (s : State) (n : Irq) : (s.raise n).pswr = s.pswr := rfl
@[simp] theorem State.raise_dmaRequests (s : State) (n : Irq) : (s.raise n).dmaRequests = s.dmaRequests := rfl
@[simp] theorem State.raise_t0 (s : State) (n : Irq) : (s.raise n).t0 = s.t0 := rfl
@[simp] theorem State.raise_t1 (s : State) (n : Irq) : (s.raise n).t1 = s.t1 := rfl
@[simp] theorem State.raise_dma (s : State) (n : Irq) : (s.raise n).dma = s.dma := rfl
@[simp] theorem State.raise_slot (s : State) (n : Irq) : (s.raise n).slot = s.slot := rfl
@[simp] theorem State.raise_pending (s : State) (n : Irq) : (s.raise n).pending = s.pending := rfl
@[simp] theorem State.raise_mem (s : State) (n : Irq) : (s.raise n).mem = s.mem := rfl
@[simp] theorem State.raise_stored (s : State) (n : Irq) : (s.raise n).stored = s.stored := rfl
@[simp] theorem State.raise_inputs (s : State) (n : Irq) : (s.raise n).inputs = s.inputs := rfl
@[simp] theorem State.raise_irqWait (s : State) (n : Irq) : (s.raise n).irqWait = s.irqWait := rfl
@[simp] theorem State.raise_draws (s : State) (n : Irq) : (s.raise n).draws = s.draws := rfl
@[simp] theorem State.raise_par (s : State) (n : Irq) : (s.raise n).par = s.par := rfl

@[simp] theorem State.clearReq_gr (s : State) (n : Irq) : (s.clearReq n).gr = s.gr := rfl
@[simp] theorem State.clearReq_ar (s : State) (n : Irq) : (s.clearReq n).ar = s.ar := rfl
@[simp] theorem State.clearReq_pc (s : State) (n : Irq) : (s.clearReq n).pc = s.pc := rfl
@[simp] theorem State.clearReq_pswr (s : State) (n : Irq) : (s.clearReq n).pswr = s.pswr := rfl
@[simp] theorem State.clearReq_dmaRequests (s : State) (n : Irq) : (s.clearReq n).dmaRequests = s.dmaRequests := rfl
@[simp] theorem State.clearReq_t0 (s : State) (n : Irq) : (s.clearReq n).t0 = s.t0 := rfl
@[simp] theorem State.clearReq_t1 (s : State) (n : Irq) : (s.clearReq n).t1 = s.t1 := rfl
@[simp] theorem State.clearReq_dma (s : State) (n : Irq) : (s.clearReq n).dma = s.dma := rfl
@[simp] theorem State.clearReq_slot (s : State) (n : Irq) : (s.clearReq n).slot = s.slot := rfl
@[simp] theorem State.clearReq_pending (s : State) (n : Irq) : (s.clearReq n).pending = s.pending := rfl
@[simp] theorem State.clearReq_mem (s : State) (n : Irq) : (s.clearReq n).mem = s.mem := rfl
@[simp] theorem State.clearReq_stored (s : State) (n : Irq) : (s.clearReq n).stored = s.stored := rfl
@[simp] theorem State.clearReq_inputs (s : State) (n : Irq) : (s.clearReq n).inputs = s.inputs := rfl
@[simp] theorem State.clearReq_irqWait (s : State) (n : Irq) : (s.clearReq n).irqWait = s.irqWait := rfl
@[simp] theorem State.clearReq_draws (s : State) (n : Irq) : (s.clearReq n).draws = s.draws := rfl
@[simp] theorem State.clearReq_par (s : State) (n : Irq) : (s.clearReq n).par = s.par := rfl

@[simp] theorem State.decideTransfer_gr (s : State) (j : Option Word) : (s.decideTransfer j).gr = s.gr := by cases j <;> rfl
@[simp] theorem State.decideTransfer_ar (s : State) (j : Option Word) : (s.decideTransfer j).ar = s.ar := by cases j <;> rfl
@[simp] theorem State.decideTransfer_pc (s : State) (j : Option Word) : (s.decideTransfer j).pc = s.pc := by cases j <;> rfl
@[simp] theorem State.decideTransfer_pswr (s : State) (j : Option Word) : (s.decideTransfer j).pswr = s.pswr := by cases j <;> rfl
@[simp] theorem State.decideTransfer_requests (s : State) (j : Option Word) : (s.decideTransfer j).requests = s.requests := by cases j <;> rfl
@[simp] theorem State.decideTransfer_dmaRequests (s : State) (j : Option Word) : (s.decideTransfer j).dmaRequests = s.dmaRequests := by cases j <;> rfl
@[simp] theorem State.decideTransfer_t0 (s : State) (j : Option Word) : (s.decideTransfer j).t0 = s.t0 := by cases j <;> rfl
@[simp] theorem State.decideTransfer_t1 (s : State) (j : Option Word) : (s.decideTransfer j).t1 = s.t1 := by cases j <;> rfl
@[simp] theorem State.decideTransfer_dma (s : State) (j : Option Word) : (s.decideTransfer j).dma = s.dma := by cases j <;> rfl
@[simp] theorem State.decideTransfer_slot (s : State) (j : Option Word) : (s.decideTransfer j).slot = s.slot := by cases j <;> rfl
@[simp] theorem State.decideTransfer_mem (s : State) (j : Option Word) : (s.decideTransfer j).mem = s.mem := by cases j <;> rfl
@[simp] theorem State.decideTransfer_stored (s : State) (j : Option Word) : (s.decideTransfer j).stored = s.stored := by cases j <;> rfl
@[simp] theorem State.decideTransfer_inputs (s : State) (j : Option Word) : (s.decideTransfer j).inputs = s.inputs := by cases j <;> rfl
@[simp] theorem State.decideTransfer_irqWait (s : State) (j : Option Word) : (s.decideTransfer j).irqWait = s.irqWait := by cases j <;> rfl
@[simp] theorem State.decideTransfer_draws (s : State) (j : Option Word) : (s.decideTransfer j).draws = s.draws := by cases j <;> rfl
@[simp] theorem State.decideTransfer_par (s : State) (j : Option Word) : (s.decideTransfer j).par = s.par := by cases j <;> rfl

@[simp] theorem State.advanceDraws_gr (s : State) (u : Bool) : (s.advanceDraws u).gr = s.gr := by cases u <;> rfl
@[simp] theorem State.advanceDraws_ar (s : State) (u : Bool) : (s.advanceDraws u).ar = s.ar := by cases u <;> rfl
@[simp] theorem State.advanceDraws_pc (s : State) (u : Bool) : (s.advanceDraws u).pc = s.pc := by cases u <;> rfl
@[simp] theorem State.advanceDraws_pswr (s : State) (u : Bool) : (s.advanceDraws u).pswr = s.pswr := by cases u <;> rfl
@[simp] theorem State.advanceDraws_requests (s : State) (u : Bool) : (s.advanceDraws u).requests = s.requests := by cases u <;> rfl
@[simp] theorem State.advanceDraws_dmaRequests (s : State) (u : Bool) : (s.advanceDraws u).dmaRequests = s.dmaRequests := by cases u <;> rfl
@[simp] theorem State.advanceDraws_t0 (s : State) (u : Bool) : (s.advanceDraws u).t0 = s.t0 := by cases u <;> rfl
@[simp] theorem State.advanceDraws_t1 (s : State) (u : Bool) : (s.advanceDraws u).t1 = s.t1 := by cases u <;> rfl
@[simp] theorem State.advanceDraws_dma (s : State) (u : Bool) : (s.advanceDraws u).dma = s.dma := by cases u <;> rfl
@[simp] theorem State.advanceDraws_slot (s : State) (u : Bool) : (s.advanceDraws u).slot = s.slot := by cases u <;> rfl
@[simp] theorem State.advanceDraws_pending (s : State) (u : Bool) : (s.advanceDraws u).pending = s.pending := by cases u <;> rfl
@[simp] theorem State.advanceDraws_mem (s : State) (u : Bool) : (s.advanceDraws u).mem = s.mem := by cases u <;> rfl
@[simp] theorem State.advanceDraws_stored (s : State) (u : Bool) : (s.advanceDraws u).stored = s.stored := by cases u <;> rfl
@[simp] theorem State.advanceDraws_inputs (s : State) (u : Bool) : (s.advanceDraws u).inputs = s.inputs := by cases u <;> rfl
@[simp] theorem State.advanceDraws_irqWait (s : State) (u : Bool) : (s.advanceDraws u).irqWait = s.irqWait := by cases u <;> rfl
@[simp] theorem State.advanceDraws_par (s : State) (u : Bool) : (s.advanceDraws u).par = s.par := by cases u <;> rfl

@[simp] theorem State.writeValue_gr (s : State) (a : Word) (wide : Bool) (v : DWord) : (s.writeValue a wide v).gr = s.gr := by cases wide <;> rfl
@[simp] theorem State.writeValue_ar (s : State) (a : Word) (wide : Bool) (v : DWord) : (s.writeValue a wide v).ar = s.ar := by cases wide <;> rfl
@[simp] theorem State.writeValue_pc (s : State) (a : Word) (wide : Bool) (v : DWord) : (s.writeValue a wide v).pc = s.pc := by cases wide <;> rfl
@[simp] theorem State.writeValue_pswr (s : State) (a : Word) (wide : Bool) (v : DWord) : (s.writeValue a wide v).pswr = s.pswr := by cases wide <;> rfl
@[simp] theorem State.writeValue_requests (s : State) (a : Word) (wide : Bool) (v : DWord) : (s.writeValue a wide v).requests = s.requests := by cases wide <;> rfl
@[simp] theorem State.writeValue_dmaRequests (s : State) (a : Word) (wide : Bool) (v : DWord) : (s.writeValue a wide v).dmaRequests = s.dmaRequests := by cases wide <;> rfl
@[simp] theorem State.writeValue_t0 (s : State) (a : Word) (wide : Bool) (v : DWord) : (s.writeValue a wide v).t0 = s.t0 := by cases wide <;> rfl
@[simp] theorem State.writeValue_t1 (s : State) (a : Word) (wide : Bool) (v : DWord) : (s.writeValue a wide v).t1 = s.t1 := by cases wide <;> rfl
@[simp] theorem State.writeValue_dma (s : State) (a : Word) (wide : Bool) (v : DWord) : (s.writeValue a wide v).dma = s.dma := by cases wide <;> rfl
@[simp] theorem State.writeValue_slot (s : State) (a : Word) (wide : Bool) (v : DWord) : (s.writeValue a wide v).slot = s.slot := by cases wide <;> rfl
@[simp] theorem State.writeValue_pending (s : State) (a : Word) (wide : Bool) (v : DWord) : (s.writeValue a wide v).pending = s.pending := by cases wide <;> rfl
@[simp] theorem State.writeValue_inputs (s : State) (a : Word) (wide : Bool) (v : DWord) : (s.writeValue a wide v).inputs = s.inputs := by cases wide <;> rfl
@[simp] theorem State.writeValue_irqWait (s : State) (a : Word) (wide : Bool) (v : DWord) : (s.writeValue a wide v).irqWait = s.irqWait := by cases wide <;> rfl
@[simp] theorem State.writeValue_draws (s : State) (a : Word) (wide : Bool) (v : DWord) : (s.writeValue a wide v).draws = s.draws := by cases wide <;> rfl
@[simp] theorem State.writeValue_par (s : State) (a : Word) (wide : Bool) (v : DWord) : (s.writeValue a wide v).par = s.par := by cases wide <;> rfl

@[simp] theorem State.setGr_gr (s : State) (i : RegIx) (v : Word) : (s.setGr i v).gr = s.gr.set i.val v := rfl
@[simp] theorem State.setAr_ar (s : State) (i : RegIx) (v : Word) : (s.setAr i v).ar = s.ar.set i.val v := rfl
@[simp] theorem State.setWord_mem (s : State) (a v : Word) : (s.setWord a v).mem = Memory.write s.mem a.toNat v := rfl
@[simp] theorem State.setWord_stored (s : State) (a v : Word) : (s.setWord a v).stored = insertAddr a.toNat s.stored := rfl
@[simp] theorem State.setChannel_dma (s : State) (c : Fin 2) (ch : Channel) :
    (s.setChannel c ch).dma = s.dma.set c.val ch := rfl
@[simp] theorem State.setTimer_t0_t0 (s : State) (v : Word) : (s.setTimer .t0 v).t0 = v := rfl
@[simp] theorem State.setTimer_t0_t1 (s : State) (v : Word) : (s.setTimer .t0 v).t1 = s.t1 := rfl
@[simp] theorem State.setTimer_t1_t0 (s : State) (v : Word) : (s.setTimer .t1 v).t0 = s.t0 := rfl
@[simp] theorem State.setTimer_t1_t1 (s : State) (v : Word) : (s.setTimer .t1 v).t1 = v := rfl
@[simp] theorem State.decideTransfer_none (s : State) : s.decideTransfer none = s := rfl
@[simp] theorem State.decideTransfer_some_pending (s : State) (t : Word) :
    (s.decideTransfer (some t)).pending = some { target := t, words := s.par.delayWords } := rfl
@[simp] theorem State.advanceDraws_false (s : State) : s.advanceDraws false = s := rfl
@[simp] theorem State.advanceDraws_true_draws (s : State) : (s.advanceDraws true).draws = s.draws + 1 := rfl

/-! Registers read back. -/

@[simp] theorem State.readGr_setGr_self (s : State) (i : RegIx) (v : Word) : (s.setGr i v).readGr i = v := by
  simp [State.readGr]

theorem State.readGr_setGr_ne (s : State) {i j : RegIx} (v : Word) (h : i ≠ j) : (s.setGr i v).readGr j = s.readGr j := by
  have h' : i.val ≠ j.val := fun e => h (Fin.ext e)
  simp [State.readGr, h']

@[simp] theorem State.readAr_setAr_self (s : State) (i : RegIx) (v : Word) : (s.setAr i v).readAr i = v := by
  simp [State.readAr]

theorem State.readAr_setAr_ne (s : State) {i j : RegIx} (v : Word) (h : i ≠ j) : (s.setAr i v).readAr j = s.readAr j := by
  have h' : i.val ≠ j.val := fun e => h (Fin.ext e)
  simp [State.readAr, h']

@[simp] theorem State.readGr_setAr (s : State) (i j : RegIx) (v : Word) : (s.setAr i v).readGr j = s.readGr j := rfl
@[simp] theorem State.readAr_setGr (s : State) (i j : RegIx) (v : Word) : (s.setGr i v).readAr j = s.readAr j := rfl

@[simp] theorem State.channel_setChannel_self (s : State) (c : Fin 2) (ch : Channel) : (s.setChannel c ch).channel c = ch := by
  simp [State.channel]

theorem State.channel_setChannel_ne (s : State) {c e : Fin 2} (ch : Channel) (h : c ≠ e) :
    (s.setChannel c ch).channel e = s.channel e := by
  have h' : c.val ≠ e.val := fun x => h (Fin.ext x)
  simp [State.channel, h']

@[simp] theorem Channel.get_set_self (ch : Channel) (r : DmaReg) (v : Word) : (ch.set r v).get r = v := by cases r <;> rfl

theorem Channel.get_set_ne (ch : Channel) {r q : DmaReg} (v : Word) (h : r ≠ q) : (ch.set r v).get q = ch.get q := by
  cases r <;> cases q <;> first | rfl | exact absurd rfl h

end Sys2Proof.Machine
end

