-- ==== Sys2Proof/Laws/Ops.lean ====
section
/-!
SUPPORT. One lemma per shared operation that says once everything it can do: if it answers, then this holds. Later proofs cite
these instead of unfolding the operation.
-/

namespace Sys2Proof.Machine

/-! ### Sequencing -/

@[simp] theorem andThen_next {α β : Type} (a : α) (f : α → Result β) : andThen (.next a) f = f a := rfl
@[simp] theorem andThen_fault {α β : Type} (e : Fault) (f : α → Result β) : andThen (.fault e) f = .fault e := rfl
@[simp] theorem andThen_refused {α β : Type} (e : Refusal) (f : α → Result β) : andThen (.refused e) f = .refused e := rfl

/-- A sequence answers exactly when both parts do. -/
theorem andThen_eq_next {α β : Type} {r : Result α} {f : α → Result β} {b : β} :
    andThen r f = .next b ↔ ∃ a, r = .next a ∧ f a = .next b := by
  cases r <;> simp [andThen]

/-! ### Memory -/

theorem toNat_lt (a : Word) : a.toNat < 2 ^ 32 := a.isLt

theorem evenWord_ne_oddWord (a b : Word) : evenWord a ≠ oddWord b := by
  intro h
  have h0 := congrArg (fun w : Word => w.getLsbD 0) h
  simp [evenWord, oddWord] at h0

theorem toNat_ne {a b : Word} (h : a ≠ b) : a.toNat ≠ b.toNat := fun e => h (BitVec.eq_of_toNat_eq e)

@[simp] theorem State.word_setWord_self (s : State) (a v : Word) : (s.setWord a v).word a = v := by
  simp [State.word]

theorem State.word_setWord_ne (s : State) {a b : Word} (v : Word) (h : a ≠ b) : (s.setWord a v).word b = s.word b := by
  simp [State.word, Memory.read_write_ne _ _ (toNat_ne h)]

/-- What one word reads as after a 32-bit write (R64). -/
theorem State.word_writeValue_narrow (s : State) (a b : Word) (v : DWord) :
    (s.writeValue a false v).word b = if b = a then v.extractLsb' 0 32 else s.word b := by
  by_cases h : b = a
  · subst h
    simp [State.writeValue]
  · simp [State.writeValue, State.word_setWord_ne s _ (Ne.symm h), h]

/-- What one word reads as after a 64-bit write (R64). -/
theorem State.word_writeValue_wide (s : State) (a b : Word) (v : DWord) :
    (s.writeValue a true v).word b =
      if b = oddWord a then v.extractLsb' 32 32 else if b = evenWord a then v.extractLsb' 0 32 else s.word b := by
  by_cases ho : b = oddWord a
  · subst ho
    simp [State.writeValue]
  · simp only [State.writeValue, if_true, State.word_setWord_ne _ _ (Ne.symm ho), ho, if_false]
    by_cases he : b = evenWord a
    · subst he
      simp
    · simp [State.word_setWord_ne s _ (Ne.symm he), he]

/-- A write leaves every word it does not store to alone. -/
theorem State.word_writeValue_of_not_mem (s : State) {a b : Word} {wide : Bool} (v : DWord) (h : b ∉ storedWords a wide) :
    (s.writeValue a wide v).word b = s.word b := by
  cases wide
  · have hb : b ≠ a := by simpa [storedWords] using h
    simp [State.word_writeValue_narrow, hb]
  · have hb : b ≠ evenWord a ∧ b ≠ oddWord a := by simpa [storedWords, not_or] using h
    simp [State.word_writeValue_wide, hb.1, hb.2]

/-- A read answers exactly when every word of it can be accessed. -/
theorem State.memRead_eq_next {s : State} {a : Word} {wide : Bool} {v : DWord} :
    s.memRead a wide = .next v ↔ s.access a wide = .next () ∧ v = s.readValue a wide := by
  simp only [State.memRead, andThen_eq_next]
  constructor
  · rintro ⟨_, h, hv⟩
    exact ⟨h, (Host.Outcome.next.inj hv).symm⟩
  · rintro ⟨h, rfl⟩
    exact ⟨(), h, rfl⟩

/-- A write answers exactly when every word of it can be accessed. -/
theorem State.memWrite_eq_next {s t : State} {a : Word} {wide : Bool} {v : DWord} :
    s.memWrite a wide v = .next t ↔ s.access a wide = .next () ∧ t = s.writeValue a wide v := by
  simp only [State.memWrite, andThen_eq_next]
  constructor
  · rintro ⟨_, h, hv⟩
    exact ⟨h, (Host.Outcome.next.inj hv).symm⟩
  · rintro ⟨h, rfl⟩
    exact ⟨(), h, rfl⟩

/-- A write notes exactly the words it stores (R78). -/
theorem State.mem_stored_writeValue {s : State} {a : Word} {wide : Bool} {v : DWord} {n : Nat} :
    n ∈ (s.writeValue a wide v).stored ↔ n ∈ s.stored ∨ ∃ b ∈ storedWords a wide, n = b.toNat := by
  cases wide <;> simp [State.writeValue, storedWords, mem_insertAddr] <;> tauto

/-- The representation stays canonical when a word is stored. -/
theorem setWord_rising {s : State} (a v : Word) (hm : Memory.wf s.mem = true) (hs : risingBelow (2 ^ 32) s.stored = true) :
    Memory.wf (s.setWord a v).mem = true ∧ risingBelow (2 ^ 32) (s.setWord a v).stored = true :=
  ⟨Memory.wf_write v (toNat_lt a) hm, insertAddr_rising (toNat_lt a) hs⟩

/-- The representation stays canonical under every write. -/
theorem writeValue_rising {s : State} (a : Word) (wide : Bool) (v : DWord) (hm : Memory.wf s.mem = true)
    (hs : risingBelow (2 ^ 32) s.stored = true) :
    Memory.wf (s.writeValue a wide v).mem = true ∧ risingBelow (2 ^ 32) (s.writeValue a wide v).stored = true := by
  cases wide
  · exact setWord_rising _ _ hm hs
  · have h := setWord_rising (evenWord a) (v.extractLsb' 0 32) hm hs
    exact setWord_rising _ _ h.1 h.2

/-! ### Register pairs -/

@[simp] theorem pairFirst_pairValue (o : PairOrder) (x y : Word) : pairFirst o (pairValue o x y) = x := by
  cases o
  · exact BitVec.extractLsb'_append_eq_left
  · exact BitVec.extractLsb'_append_eq_right

@[simp] theorem pairSecond_pairValue (o : PairOrder) (x y : Word) : pairSecond o (pairValue o x y) = y := by
  cases o
  · exact BitVec.extractLsb'_append_eq_right
  · exact BitVec.extractLsb'_append_eq_left

@[simp] theorem low_zeroExtend (v : Word) : (v.zeroExtend 64).extractLsb' 0 32 = v := by
  apply BitVec.eq_of_getLsbD_eq
  intro i hi
  simp [hi]
  omega

/-! ### Register writes -/

@[simp] theorem State.write_gr (s : State) (i : RegIx) (v : Word) : s.write (RegWrite.of (.gr i) v) = s.setGr i v := by
  simp only [State.write, RegWrite.of, low_zeroExtend]

@[simp] theorem State.write_ar (s : State) (i : RegIx) (v : Word) : s.write (RegWrite.of (.ar i) v) = s.setAr i v := by
  simp only [State.write, RegWrite.of, low_zeroExtend]

@[simp] theorem State.write_pswr (s : State) (v : Word) : s.write (RegWrite.of .pswr v) = { s with pswr := v } := by
  simp only [State.write, RegWrite.of, low_zeroExtend]

@[simp] theorem State.write_timer (s : State) (t : Timer) (v : Word) :
    s.write (RegWrite.of (.timer t) v) = s.setTimer t v := by
  simp only [State.write, RegWrite.of, low_zeroExtend]

@[simp] theorem State.write_dma (s : State) (r : DmaReg) (c : Fin 2) (v : Word) :
    s.write (RegWrite.of (.dma r c) v) = s.setChannel c ((s.channel c).set r v) := by
  simp only [State.write, RegWrite.of, low_zeroExtend]

@[simp] theorem State.write_dor (s : State) (c : Fin 2) (v : DWord) :
    s.write { reg := .dor c, value := v } = s.setChannel c { s.channel c with dor := v } := rfl

@[simp] theorem State.writeAll_nil (s : State) : s.writeAll [] = s := rfl

@[simp] theorem State.writeAll_cons (s : State) (w : RegWrite) (ws : List RegWrite) :
    s.writeAll (w :: ws) = (s.write w).writeAll ws := rfl

/-- One register write leaves everything but the registers alone. -/
theorem State.write_frame (s : State) (w : RegWrite) :
    (s.write w).mem = s.mem ∧ (s.write w).stored = s.stored ∧ (s.write w).pc = s.pc ∧ (s.write w).slot = s.slot ∧
      (s.write w).pending = s.pending ∧ (s.write w).requests = s.requests ∧ (s.write w).dmaRequests = s.dmaRequests ∧
      (s.write w).inputs = s.inputs ∧ (s.write w).irqWait = s.irqWait ∧ (s.write w).draws = s.draws ∧
      (s.write w).par = s.par := by
  obtain ⟨r, v⟩ := w
  cases r <;> simp [State.write]

/-- Register writes leave everything but the registers alone. -/
theorem State.writeAll_frame (ws : List RegWrite) (s : State) :
    (s.writeAll ws).mem = s.mem ∧ (s.writeAll ws).stored = s.stored ∧ (s.writeAll ws).pc = s.pc ∧
      (s.writeAll ws).slot = s.slot ∧ (s.writeAll ws).pending = s.pending ∧ (s.writeAll ws).requests = s.requests ∧
      (s.writeAll ws).dmaRequests = s.dmaRequests ∧ (s.writeAll ws).inputs = s.inputs ∧
      (s.writeAll ws).irqWait = s.irqWait ∧ (s.writeAll ws).draws = s.draws ∧ (s.writeAll ws).par = s.par := by
  induction ws generalizing s with
  | nil => simp [State.writeAll]
  | cons w rest ih =>
    have h := ih (s.write w)
    have h0 := State.write_frame s w
    simp only [State.writeAll, List.foldl_cons] at *
    simpa [h0] using h

/-- A general register that no write names keeps its value. -/
theorem State.writeAll_gr_of_not_mem (ws : List RegWrite) (s : State) (i : RegIx)
    (h : Target.gr i ∉ ws.map RegWrite.reg) : (s.writeAll ws).readGr i = s.readGr i := by
  induction ws generalizing s with
  | nil => rfl
  | cons w rest ih =>
    simp only [List.map_cons, List.mem_cons, not_or] at h
    have h1 : (s.writeAll (w :: rest)) = (s.write w).writeAll rest := rfl
    rw [h1, ih _ h.2]
    obtain ⟨r, v⟩ := w
    cases r with
    | gr j => exact State.readGr_setGr_ne s _ (fun e => h.1 (by simp [e]))
    | timer t => cases t <;> rfl
    | _ => rfl

/-- An address register that no write names keeps its value. -/
theorem State.writeAll_ar_of_not_mem (ws : List RegWrite) (s : State) (i : RegIx)
    (h : Target.ar i ∉ ws.map RegWrite.reg) : (s.writeAll ws).readAr i = s.readAr i := by
  induction ws generalizing s with
  | nil => rfl
  | cons w rest ih =>
    simp only [List.map_cons, List.mem_cons, not_or] at h
    have h1 : (s.writeAll (w :: rest)) = (s.write w).writeAll rest := rfl
    rw [h1, ih _ h.2]
    obtain ⟨r, v⟩ := w
    cases r with
    | ar j => exact State.readAr_setAr_ne s _ (fun e => h.1 (by simp [e]))
    | timer t => cases t <;> rfl
    | _ => rfl

/-- PSWR keeps its value when no write names it. -/
theorem State.writeAll_pswr_of_not_mem (ws : List RegWrite) (s : State) (h : Target.pswr ∉ ws.map RegWrite.reg) :
    (s.writeAll ws).pswr = s.pswr := by
  induction ws generalizing s with
  | nil => rfl
  | cons w rest ih =>
    simp only [List.map_cons, List.mem_cons, not_or] at h
    have h1 : (s.writeAll (w :: rest)) = (s.write w).writeAll rest := rfl
    rw [h1, ih _ h.2]
    obtain ⟨r, v⟩ := w
    cases r with
    | pswr => exact absurd rfl h.1
    | timer t => cases t <;> rfl
    | _ => rfl

/-- The writes of a destination name the registers that `Dst.targets` lists. -/
@[simp] theorem Dst.writes_targets (o : PairOrder) (pswr : Word) (d : Dst) (v : DWord) :
    (d.writes o pswr v).map RegWrite.reg = d.targets := by
  cases d <;> rfl

/-- A destination has a jump exactly when it holds PC. -/
@[simp] theorem Dst.jump_isSome (o : PairOrder) (d : Dst) (v : DWord) : (d.jump o v).isSome = d.transfers := by
  cases d <;> rfl

/-! ### The two parts of a word -/

/-- Writes of general registers leave everything else alone. -/
theorem State.setGrs_frame (ws : List (RegIx × Word)) (s : State) : ∃ g, s.setGrs ws = { s with gr := g } := by
  induction ws generalizing s with
  | nil => exact ⟨s.gr, rfl⟩
  | cons w rest ih =>
    obtain ⟨g, h⟩ := ih (s.setGr w.1 w.2)
    exact ⟨g, h⟩

@[simp] theorem State.setGrs_nil (s : State) : s.setGrs [] = s := rfl

@[simp] theorem State.setGrs_cons (s : State) (w : RegIx × Word) (ws : List (RegIx × Word)) :
    s.setGrs (w :: ws) = (s.setGr w.1 w.2).setGrs ws := rfl

/-- A general register that no write names keeps its value. -/
theorem State.setGrs_readGr_of_not_mem (ws : List (RegIx × Word)) (s : State) (i : RegIx) (h : i ∉ ws.map Prod.fst) :
    (s.setGrs ws).readGr i = s.readGr i := by
  induction ws generalizing s with
  | nil => rfl
  | cons w rest ih =>
    simp only [List.map_cons, List.mem_cons, not_or] at h
    rw [State.setGrs_cons, ih _ h.2, State.readGr_setGr_ne s _ (Ne.symm h.1)]

/-- The effect of an OP part, field by field. -/
theorem State.applyOp_frame (s : State) (o : OpEffect) :
    (s.applyOp o).ar = s.ar ∧ (s.applyOp o).pc = s.pc ∧ (s.applyOp o).dmaRequests = s.dmaRequests ∧
      (s.applyOp o).t0 = s.t0 ∧ (s.applyOp o).t1 = s.t1 ∧ (s.applyOp o).dma = s.dma ∧ (s.applyOp o).slot = s.slot ∧
      (s.applyOp o).pending = s.pending ∧ (s.applyOp o).mem = s.mem ∧ (s.applyOp o).stored = s.stored ∧
      (s.applyOp o).inputs = s.inputs ∧ (s.applyOp o).irqWait = s.irqWait ∧ (s.applyOp o).draws = s.draws ∧
      (s.applyOp o).par = s.par := by
  obtain ⟨gs, f, ov, dr⟩ := o
  obtain ⟨g, hg⟩ := State.setGrs_frame gs s
  cases f <;> cases ov <;> simp [State.applyOp, hg]

/-- What finishing an instruction leaves alone. -/
theorem State.finish_frame (s : State) (ws : List RegWrite) (j : Option Word) (dr : Bool) (o : OpEffect) :
    (s.finish ws j dr o).mem = s.mem ∧ (s.finish ws j dr o).stored = s.stored ∧ (s.finish ws j dr o).pc = s.pc ∧
      (s.finish ws j dr o).slot = s.slot ∧ (s.finish ws j dr o).dmaRequests = s.dmaRequests ∧
      (s.finish ws j dr o).inputs = s.inputs ∧ (s.finish ws j dr o).irqWait = s.irqWait ∧
      (s.finish ws j dr o).par = s.par := by
  have h1 := State.writeAll_frame ws s
  have h2 := State.applyOp_frame (s.writeAll ws) o
  simp [State.finish, h1, h2]

/-- When R125 points 6 and 7 answer, and with what. -/
theorem commit_eq_next {t : Plan} {o : OpEffect} {s u : State} :
    commit t o s = .next u ↔
      collides t o = false ∧ (t.transfers = true → s.pending = none) ∧
        (match t.access with
          | .none => u = s.finish t.writes t.jump t.draws o
          | .load a dst => s.access a dst.wide = .next () ∧
              u = s.finish (t.writes ++ dst.writes s.par.pairOrder s.pswr (s.readValue a dst.wide))
                (t.jump.or (dst.jump s.par.pairOrder (s.readValue a dst.wide))) t.draws o
          | .store a wide v => s.access a wide = .next () ∧
              u = (s.writeValue a wide v).finish t.writes t.jump t.draws o) := by
  have hp : (t.transfers && s.pending.isSome) = false ↔ (t.transfers = true → s.pending = none) := by
    cases t.transfers <;> cases s.pending <;> simp
  unfold commit
  by_cases hc : collides t o = true
  · simp [hc]
  · have hc' : collides t o = false := by simpa using hc
    rw [if_neg hc]
    by_cases ht : (t.transfers && s.pending.isSome) = true
    · have hn : ¬ (t.transfers = true → s.pending = none) := fun h => by rw [hp.2 h] at ht; exact absurd ht (by simp)
      rw [if_pos ht]
      exact ⟨fun h => by simp at h, fun h => absurd h.2.1 hn⟩
    · have ht' := hp.1 (by simpa using ht)
      rw [if_neg ht]
      rw [show (t.transfers = true → s.pending = none) = True from eq_true ht', hc', true_and, eq_self, true_and]
      cases t.access with
      | none => exact ⟨fun h => (Host.Outcome.next.inj h).symm, fun h => congrArg _ h.symm⟩
      | load a dst =>
        simp only [andThen_eq_next, State.memRead_eq_next]
        constructor
        · rintro ⟨v, ⟨h, rfl⟩, e⟩
          exact ⟨h, (Host.Outcome.next.inj e).symm⟩
        · rintro ⟨h, rfl⟩
          exact ⟨_, ⟨h, rfl⟩, rfl⟩
      | store a wide v =>
        simp only [andThen_eq_next, State.memWrite_eq_next]
        constructor
        · rintro ⟨v, ⟨h, rfl⟩, e⟩
          exact ⟨h, (Host.Outcome.next.inj e).symm⟩
        · rintro ⟨h, rfl⟩
          exact ⟨_, ⟨h, rfl⟩, rfl⟩

/-- When a transfer part that may touch the DMA agent answers (R36, R336). -/
theorem State.guardDma_eq_next {s : State} {touches : Bool} {t u : Plan} :
    s.guardDma touches t = .next u ↔ DmaAllowed touches s ∧ t = u := by
  unfold State.guardDma DmaAllowed
  cases touches <;> cases s.par.dmaModel <;> simp

theorem State.guardDma_of_allowed {s : State} {touches : Bool} {t : Plan} (h : DmaAllowed touches s) :
    s.guardDma touches t = .next t := State.guardDma_eq_next.2 ⟨h, rfl⟩

/-- Without the DMA agent what could start a transfer is refused (R336). -/
theorem State.guardDma_of_none {s : State} {t : Plan} (h : s.par.dmaModel = .none) :
    s.guardDma true t = .refused .dmaAccess := by
  simp [State.guardDma, h]

/-- When an instruction word answers (R125): its P bit is allowed, neither part stops, and their effects are committed. -/
theorem runWord_eq_next {p : Bool} {t : Result Plan} {o : Result OpEffect} {s u : State} :
    runWord p t o s = .next u ↔
      (p = true → s.par.pMode = .ignore) ∧ ∃ pl ef, t = .next pl ∧ o = .next ef ∧ commit pl ef s = .next u := by
  unfold runWord
  cases p <;> cases hm : s.par.pMode <;> cases t <;> cases o <;> simp

/-- What entering an interrupt does (R310), and when it does not stop. -/
theorem enterInterrupt_eq_next {n : Irq} {s u : State} :
    enterInterrupt n s = .next u ↔
      s.access s.pushAddr true = .next () ∧
        u = { ((s.writeValue s.pushAddr true (s.stackEntry s.pc)).setAr 7 s.pushSp).clearReq n with
              pswr := irqEntryPswr s.par.irqEntryPswr s.pswr n, pc := Irq.vector n, slot := false } := by
  simp only [enterInterrupt, andThen_eq_next, State.memWrite_eq_next]
  constructor
  · rintro ⟨v, ⟨h, rfl⟩, e⟩
    exact ⟨h, (Host.Outcome.next.inj e).symm⟩
  · rintro ⟨h, rfl⟩
    exact ⟨_, ⟨h, rfl⟩, rfl⟩

end Sys2Proof.Machine
end

