-- ==== Sys2Proof/Laws/Exec.lean ====
section
/-!
SUPPORT. What an instruction can do, once for all 88 rows: `exec` is `runWord` of the word's two parts, so a proof about an
instruction needs its transfer part, its OP part and `runWord_eq_next`, and unfolds no meaning.
-/

namespace Sys2Proof.Machine

/-- The OP part of a word on the state before the instruction; the null OP for a bare transfer row (R248). -/
def opPart (i : Instr) (s : State) : Result OpEffect :=
  match i with
  | .reservedAm011 _ _ _ _ => nullOp
  | .ldR _ _ _ _ => nullOp
  | .stR _ _ _ _ => nullOp
  | .reservedAmc11 _ _ _ _ _ => nullOp
  | .ldI _ _ _ _ _ => nullOp
  | .stI _ _ _ _ _ => nullOp
  | .mov _ _ _ => nullOp
  | .pswrSet _ _ => nullOp
  | .pswrRst _ _ => nullOp
  | .ldc _ _ _ => nullOp
  | .reservedRmc11 _ _ _ _ => nullOp
  | .armI _ _ _ _ _ => nullOp
  | .nopI _ _ => nullOp
  | .jmpI _ _ _ _ _ => nullOp
  | .callI _ _ _ _ _ => nullOp
  | .reserved100 _ _ _ _ => nullOp
  | .reservedRm11 _ _ _ => nullOp
  | .armR _ _ _ _ => nullOp
  | .nopR _ => nullOp
  | .reserved101 _ _ => nullOp
  | .jmpR _ _ _ _ => nullOp
  | .callR _ _ _ _ => nullOp
  | .ret _ _ => nullOp
  | .iret _ _ => nullOp
  | .reserved000 _ _ => nullOp
  | .udi _ _ => nullOp
  | .rot count src dst _ => opRot count src dst s
  | .lsh count src dst _ => opLsh count src dst s
  | .ash count src dst _ => opAsh count src dst s
  | .lshc count src dst _ => opLshc count src dst s
  | .reservedAop101x _ _ _ _ _ _ => opReserved
  | .reservedAop11x1 _ _ _ _ _ _ => opReserved
  | .reservedAop111x _ _ _ _ _ => opReserved
  | .w11 arith code s2 s1 d _ => opW11 arith code s2 s1 d s
  | .log0W s2 s1 d _ => logicalW 0#4 s2 s1 d s
  | .log0F s2 s1 _ _ => logicalF 0#4 s2 s1 s
  | .log1W s2 s1 d _ => logicalW 1#4 s2 s1 d s
  | .log1F s2 s1 _ _ => logicalF 1#4 s2 s1 s
  | .log2W s2 s1 d _ => logicalW 2#4 s2 s1 d s
  | .log2F s2 s1 _ _ => logicalF 2#4 s2 s1 s
  | .log3W s2 s1 d _ => logicalW 3#4 s2 s1 d s
  | .log3F s2 s1 _ _ => logicalF 3#4 s2 s1 s
  | .log4W s2 s1 d _ => logicalW 4#4 s2 s1 d s
  | .log4F s2 s1 _ _ => logicalF 4#4 s2 s1 s
  | .log5W s2 s1 d _ => logicalW 5#4 s2 s1 d s
  | .log5F s2 s1 _ _ => logicalF 5#4 s2 s1 s
  | .log6W s2 s1 d _ => logicalW 6#4 s2 s1 d s
  | .log6F s2 s1 _ _ => logicalF 6#4 s2 s1 s
  | .log7W s2 s1 d _ => logicalW 7#4 s2 s1 d s
  | .log7F s2 s1 _ _ => logicalF 7#4 s2 s1 s
  | .log8W s2 s1 d _ => logicalW 8#4 s2 s1 d s
  | .log8F s2 s1 _ _ => logicalF 8#4 s2 s1 s
  | .log9W s2 s1 d _ => logicalW 9#4 s2 s1 d s
  | .log9F s2 s1 _ _ => logicalF 9#4 s2 s1 s
  | .log10W s2 s1 d _ => logicalW 10#4 s2 s1 d s
  | .log10F s2 s1 _ _ => logicalF 10#4 s2 s1 s
  | .log11W s2 s1 d _ => logicalW 11#4 s2 s1 d s
  | .log11F s2 s1 _ _ => logicalF 11#4 s2 s1 s
  | .log12W s2 s1 d _ => logicalW 12#4 s2 s1 d s
  | .log12F s2 s1 _ _ => logicalF 12#4 s2 s1 s
  | .log13W s2 s1 d _ => logicalW 13#4 s2 s1 d s
  | .log13F s2 s1 _ _ => logicalF 13#4 s2 s1 s
  | .log14W s2 s1 d _ => logicalW 14#4 s2 s1 d s
  | .log14F s2 s1 _ _ => logicalF 14#4 s2 s1 s
  | .log15W s2 s1 d _ => logicalW 15#4 s2 s1 d s
  | .log15F s2 s1 _ _ => logicalF 15#4 s2 s1 s
  | .subW s2 s1 d _ => arithW (subResult s2 s1 s) d s
  | .subF s2 s1 _ _ => arithF (subResult s2 s1 s) s
  | .subcW s2 s1 d _ => arithW (subcResult s2 s1 s) d s
  | .subcF s2 s1 _ _ => arithF (subcResult s2 s1 s) s
  | .incW s2 _ d _ => arithW (incResult s2 s) d s
  | .incF s2 _ _ _ => arithF (incResult s2 s) s
  | .adc0W s2 _ d _ => arithW (adc0Result s2 s) d s
  | .adc0F s2 _ _ _ => arithF (adc0Result s2 s) s
  | .decW s2 _ d _ => arithW (decResult s2 s) d s
  | .decF s2 _ _ _ => arithF (decResult s2 s) s
  | .deccW s2 _ d _ => arithW (deccResult s2 s) d s
  | .deccF s2 _ _ _ => arithF (deccResult s2 s) s
  | .addW s2 s1 d _ => arithW (addResult s2 s1 s) d s
  | .addF s2 s1 _ _ => arithF (addResult s2 s1 s) s
  | .addcW s2 s1 d _ => arithW (addcResult s2 s1 s) d s
  | .addcF s2 s1 _ _ => arithF (addcResult s2 s1 s) s
  | .mulfW s2 s1 d _ => mulW true s2 s1 d s
  | .mulfF s2 s1 d _ => mulF true s2 s1 d s
  | .mulsW s2 s1 d _ => mulW false s2 s1 d s
  | .mulsF s2 s1 d _ => mulF false s2 s1 d s
  | .negW s2 _ d _ => arithW (negResult s2 s) d s
  | .negF s2 _ _ _ => arithF (negResult s2 s) s

/-- Every meaning is `runWord` of the two parts of its word. -/
theorem exec_eq_runWord (i : Instr) (s : State) :
    exec i s = runWord (parallelOf i) (transferPart i.transferOf s) (opPart i s) s := by
  cases i <;> rfl

/-- When an instruction answers: the P bit is allowed, neither part stops, and their effects are committed. -/
theorem exec_eq_next {i : Instr} {s u : State} :
    exec i s = .next u ↔
      (parallelOf i = true → s.par.pMode = .ignore) ∧
        ∃ t o, transferPart i.transferOf s = .next t ∧ opPart i s = .next o ∧ commit t o s = .next u := by
  rw [exec_eq_runWord, runWord_eq_next]

/-- A word whose P bit is allowed and whose parts both answer commits their effects. -/
theorem exec_of_parts {i : Instr} {s : State} {t : Plan} {o : OpEffect} (hp : PAllowed (parallelOf i) s)
    (ht : transferPart i.transferOf s = .next t) (ho : opPart i s = .next o) : exec i s = commit t o s := by
  rw [exec_eq_runWord, ht, ho]
  unfold runWord
  cases hb : parallelOf i
  · rfl
  · rw [hp hb]
    rfl

/-- Two instruction words with the same parts do the same. -/
theorem exec_congr {i j : Instr} {s : State} (hp : parallelOf i = parallelOf j)
    (ht : transferPart i.transferOf s = transferPart j.transferOf s) (ho : opPart i s = opPart j s) :
    exec i s = exec j s := by
  rw [exec_eq_runWord, exec_eq_runWord, hp, ht, ho]

/-- A well-formed transfer part is a transfer row. -/
theorem isTransfer_of_wellFormedTransfer {t : Instr} (h : t.wellFormedTransfer = true) : t.isTransfer = true := by
  cases t <;> first | rfl | exact absurd h (by simp [Instr.wellFormedTransfer])

/-- A well-formed word carries a transfer row. -/
theorem isTransfer_transferOf {i : Instr} (h : i.wellFormed = true) : i.transferOf.isTransfer = true := by
  cases i <;>
    first
    | rfl
    | (simp only [Instr.wellFormed, Bool.and_eq_true] at h
       first | exact isTransfer_of_wellFormedTransfer h | exact isTransfer_of_wellFormedTransfer h.2)

/-- The transfer part and the OP part of a word alone have the word's P bit. -/
theorem parallelOf_parts (i : Instr) : parallelOf i.transferOf = parallelOf i ∧ parallelOf i.opAlone = parallelOf i := by
  cases i <;> exact ⟨rfl, rfl⟩

/-- The OP part of a word is that of the word with NOP.R in the place of its transfer part. -/
theorem opPart_opAlone (i : Instr) (s : State) : opPart i.opAlone s = opPart i s := by
  cases i <;> rfl

/-- A transfer row alone has the null OP. -/
theorem opPart_of_isTransfer {i : Instr} (h : i.isTransfer = true) (s : State) : opPart i s = nullOp := by
  cases i <;> first | rfl | exact absurd h (by simp [Instr.isTransfer])

/-- What W = 11 writes and stores (R244). -/
theorem w11Effect_writes {arith : Bool} {code : BitVec 4} {s2 s1 d : RegIx} {t : Instr} {s : State} {o : OpEffect}
    (h : w11Effect arith code s2 s1 d s = some o) :
    o.grs.map Prod.fst = opTargets (.w11 arith code s2 s1 d t) s ∧ o.flags.isSome = true ∧
      (arith = false → o.overflow = false) := by
  unfold w11Effect at h
  split at h
  · cases h
    exact ⟨rfl, rfl, fun _ => rfl⟩
  · cases h
    exact ⟨rfl, rfl, nofun⟩
  · cases h
    exact ⟨rfl, rfl, nofun⟩
  · obtain ⟨r, -, rfl⟩ := Option.map_eq_some_iff.1 h
    refine ⟨?_, rfl, nofun⟩
    unfold opTargets moreTargets
    split <;> first | rfl | (injections <;> subst_vars <;> contradiction)

/-- What an OP part writes and stores, by its row: its general registers, whether it stores flags, and no request but of an
arithmetical operation. -/
theorem opPart_writes {i : Instr} {s : State} {o : OpEffect} (h : opPart i s = .next o) :
    o.grs.map Prod.fst = opTargets i s ∧ o.flags.isSome = i.storesFlags s.par.shiftFlags ∧
      (i.arithmetical = false → o.overflow = false) := by
  have shift (res : Word) (dst : RegIx) :
      (shiftEffect res dst s).grs.map Prod.fst = [dst] ∧
        (shiftEffect res dst s).flags.isSome = (s.par.shiftFlags == .store) ∧ (shiftEffect res dst s).overflow = false := by
    unfold shiftEffect
    cases s.par.shiftFlags <;> exact ⟨rfl, rfl, rfl⟩
  cases i with
  | rot count src dst t =>
    simp only [opPart, opRot] at h
    simp only [opTargets, moreTargets, Instr.opTarget, Instr.storesFlags, Instr.arithmetical]
    cases hn : isNullRot count src dst <;> simp only [hn] at h ⊢ <;> cases h
    · simpa [shiftBy] using shift _ dst
    · simp
  | lsh count src dst t =>
    cases h
    simpa [opTargets, moreTargets, Instr.opTarget, Instr.storesFlags, Instr.arithmetical, shiftBy] using shift _ dst
  | ash count src dst t =>
    cases h
    simpa [opTargets, moreTargets, Instr.opTarget, Instr.storesFlags, Instr.arithmetical, shiftBy] using shift _ dst
  | lshc count src dst t =>
    simp only [opPart, opLshc] at h
    split at h <;> cases h
    simpa [opTargets, moreTargets, Instr.opTarget, Instr.storesFlags, Instr.arithmetical] using shift _ dst
  | w11 arith code s2 s1 d t =>
    simp only [opPart, opW11] at h
    split at h
    · cases h
    · rename_i e he
      split at h <;> cases h
      exact w11Effect_writes he
  | reservedAop101x _ _ _ _ _ _ => cases h
  | reservedAop11x1 _ _ _ _ _ _ => cases h
  | reservedAop111x _ _ _ _ _ => cases h
  | _ => cases h; exact ⟨rfl, rfl, fun ha => by first | rfl | cases ha⟩

/-- The reserved codes of R131 are those that Table 5-8 gives no register as a source. -/
theorem srcOf_eq_none_iff (r : RegCode) : srcOf r = none ↔ isReservedSource r = true := by
  revert r
  decide

/-- The reserved codes of R131 are those that Table 5-8 gives no register as a destination. -/
theorem dstOf_eq_none_iff (r : RegCode) : dstOf r = none ↔ isReservedDestination r = true := by
  revert r
  decide

/-- A transfer row with a reserved encoding raises IllegalInstruction (R132). -/
theorem transferPart_of_reserved {t : Instr} (h : t.isReservedTransfer = true) (s : State) :
    transferPart t s = .fault .illegalInstruction := by
  cases t with
  | ldR p am i r => simp only [transferPart, planLdR, (dstOf_eq_none_iff r).2 h]
  | stR p am i r => simp only [transferPart, planStR, (srcOf_eq_none_iff r).2 h]
  | ldI p amc i r k => simp only [transferPart, planLdI, (dstOf_eq_none_iff r).2 h]
  | stI p amc i r k => simp only [transferPart, planStI, (srcOf_eq_none_iff r).2 h]
  | ldc p rd k => simp only [transferPart, planLdc, (dstOf_eq_none_iff rd).2 h]
  | mov p rd rs =>
    simp only [Instr.isReservedTransfer, Bool.or_eq_true, ← dstOf_eq_none_iff, ← srcOf_eq_none_iff] at h
    rcases h with h | h
    · cases hs : srcOf rs <;> simp [transferPart, planMov, h, hs]
    · simp [transferPart, planMov, h]
  | _ => first | rfl | cases h

/-- A word with a reserved encoding has a part that raises IllegalInstruction (R132). -/
theorem parts_of_reserved {i : Instr} (h : i.isReserved = true) (s : State) :
    transferPart i.transferOf s = .fault .illegalInstruction ∨ opPart i s = .fault .illegalInstruction := by
  simp only [Instr.isReserved, Bool.or_eq_true] at h
  rcases h with h | h
  · exact .inl (transferPart_of_reserved h s)
  · split at h
    · exact .inr rfl
    · exact .inr rfl
    · exact .inr rfl
    · cases h

/-- Before its memory access a transfer part refuses, raises IllegalInstruction or yields a plan, and only a store or a call
plans a store. -/
theorem transferPart_cases (t : Instr) (s : State) :
    (∃ r, transferPart t s = .refused r) ∨ transferPart t s = .fault .illegalInstruction ∨
      ∃ plan, transferPart t s = .next plan ∧
        (t.storesMemory = false → ∀ a wide v, plan.access ≠ .store a wide v) := by
  have cond (c : Cond) (plan : Plan) (h : ∀ a wide v, plan.access ≠ .store a wide v) :
      (∃ r, planIf c s plan = .refused r) ∨ planIf c s plan = .fault .illegalInstruction ∨
        ∃ plan', planIf c s plan = .next plan' ∧ (∀ a wide v, plan'.access ≠ .store a wide v) := by
    unfold planIf
    split
    · exact .inr (.inr ⟨_, rfl, h⟩)
    · exact .inr (.inr ⟨{}, rfl, by simp⟩)
  have cond' (c : Cond) (plan : Plan) :
      (∃ r, planIf c s plan = .refused r) ∨ planIf c s plan = .fault .illegalInstruction ∨
        ∃ plan', planIf c s plan = .next plan' ∧ ((true : Bool) = false → ∀ a wide v, plan'.access ≠ .store a wide v) := by
    unfold planIf
    split <;> exact .inr (.inr ⟨_, rfl, by simp⟩)
  have guard {b : Bool} {plan : Plan} {st : Bool} (h : st = false → ∀ a wide v, plan.access ≠ .store a wide v) :
      (∃ r, s.guardDma b plan = .refused r) ∨ s.guardDma b plan = .fault .illegalInstruction ∨
        ∃ plan', s.guardDma b plan = .next plan' ∧ (st = false → ∀ a wide v, plan'.access ≠ .store a wide v) := by
    unfold State.guardDma
    split
    · exact .inl ⟨_, rfl⟩
    · exact .inr (.inr ⟨_, rfl, h⟩)
  cases t with
  | ldR p am i r =>
    simp only [transferPart, planLdR]
    split
    · simp
    · exact guard (by simp)
  | stR p am i r =>
    simp only [transferPart, planStR]
    split
    · simp
    · exact guard nofun
  | ldI p amc i r k =>
    simp only [transferPart, planLdI]
    split
    · simp
    · exact guard (by simp)
  | stI p amc i r k =>
    simp only [transferPart, planStI]
    split
    · simp
    · exact guard nofun
  | mov p rd rs =>
    simp only [transferPart, planMov]
    split
    · split
      · exact guard (by simp [planWrite])
      · simp
    · simp
  | ldc p rd k =>
    simp only [transferPart, planLdc]
    split
    · simp
    · split
      · simp
      · exact guard (by simp [planWrite])
  | jmpR p pm i c => exact (cond c _ (by simp)).imp_right (.imp_right fun ⟨x, h, h'⟩ => ⟨x, h, fun _ => h'⟩)
  | jmpI p pmc i c k => exact (cond c _ (by simp)).imp_right (.imp_right fun ⟨x, h, h'⟩ => ⟨x, h, fun _ => h'⟩)
  | ret p c => exact (cond c _ (by simp [State.returnPlan])).imp_right (.imp_right fun ⟨x, h, h'⟩ => ⟨x, h, fun _ => h'⟩)
  | iret p c => exact (cond c _ (by simp [State.returnPlan])).imp_right (.imp_right fun ⟨x, h, h'⟩ => ⟨x, h, fun _ => h'⟩)
  | callR p pm i c => exact cond' c _
  | callI p pmc i c k => exact cond' c _
  | _ => first
    | exact .inr (.inl rfl)
    | exact .inl ⟨_, rfl⟩
    | exact .inr (.inr ⟨_, rfl, fun _ => by simp [planWrite]⟩)

end Sys2Proof.Machine
end

