-- ==== Sys2Proof/Laws/PerInstr.lean ====
section
/-!
SUPPORT. Statements about every instruction as syntax, one lemma per constructor: the P bit of its word (R92), and that its
word is a long format exactly when it carries a constant (R90, R91).
-/

namespace Sys2Proof.Laws.ParallelBit

/-- Bit 31 of the encoded word is the P bit of the instruction (R92). -/
def Statement (i : Instr) : Prop := (encodeWord i).getLsbD 31 = Machine.parallelOf i

theorem transfer_bit (i : Instr) : (encodeTransfer i).getLsbD 15 = Machine.parallelOf i := by
  induction i <;>
    first
    | assumption
    | (simp only [encodeTransfer, Machine.parallelOf, encodeLsR, encodeLsI, encodeArm, encodeJump, encodeRet,
         BitVec.getLsbD_append, bitField]
       simp)

theorem all (i : Instr) : Statement i := by
  have h := transfer_bit i
  simp only [Statement, encodeWord, BitVec.getLsbD_append]
  simpa using h

theorem reservedAm011 (p store : Bool) (i : RegIx) (r : RegCode) : Statement (.reservedAm011 p store i r) := all _
theorem ldR (p : Bool) (am : AM) (i : RegIx) (r : RegCode) : Statement (.ldR p am i r) := all _
theorem stR (p : Bool) (am : AM) (i : RegIx) (r : RegCode) : Statement (.stR p am i r) := all _
theorem reservedAmc11 (p store : Bool) (i : RegIx) (r : RegCode) (k : Word) : Statement (.reservedAmc11 p store i r k) := all _
theorem ldI (p : Bool) (amc : AMC) (i : RegIx) (r : RegCode) (k : Word) : Statement (.ldI p amc i r k) := all _
theorem stI (p : Bool) (amc : AMC) (i : RegIx) (r : RegCode) (k : Word) : Statement (.stI p amc i r k) := all _
theorem mov (p : Bool) (rd rs : RegCode) : Statement (.mov p rd rs) := all _
theorem pswrSet (p : Bool) (k : Word) : Statement (.pswrSet p k) := all _
theorem pswrRst (p : Bool) (k : Word) : Statement (.pswrRst p k) := all _
theorem ldc (p : Bool) (rd : RegCode) (k : Word) : Statement (.ldc p rd k) := all _
theorem reservedRmc11 (p : Bool) (i : RegIx) (j : Fin 4) (k : Word) : Statement (.reservedRmc11 p i j k) := all _
theorem armI (p : Bool) (rmc : RMC) (i : RegIx) (j : Fin 4) (k : Word) : Statement (.armI p rmc i j k) := all _
theorem nopI (p : Bool) (k : Word) : Statement (.nopI p k) := all _
theorem jmpI (p : Bool) (pmc : PMC) (i : RegIx) (cond : Cond) (k : Word) : Statement (.jmpI p pmc i cond k) := all _
theorem callI (p : Bool) (pmc : PMC) (i : RegIx) (cond : Cond) (k : Word) : Statement (.callI p pmc i cond k) := all _
theorem reserved100 (p : Bool) (a : BitVec 6) (b : BitVec 4) (k : Word) : Statement (.reserved100 p a b k) := all _
theorem reservedRm11 (p : Bool) (i : RegIx) (j : Fin 4) : Statement (.reservedRm11 p i j) := all _
theorem armR (p : Bool) (rm : RM) (i : RegIx) (j : Fin 4) : Statement (.armR p rm i j) := all _
theorem nopR (p : Bool) : Statement (.nopR p) := all _
theorem reserved101 (p : Bool) (bits : BitVec 12) : Statement (.reserved101 p bits) := all _
theorem jmpR (p : Bool) (pm : PM) (i : RegIx) (cond : Cond) : Statement (.jmpR p pm i cond) := all _
theorem callR (p : Bool) (pm : PM) (i : RegIx) (cond : Cond) : Statement (.callR p pm i cond) := all _
theorem ret (p : Bool) (cond : Cond) : Statement (.ret p cond) := all _
theorem iret (p : Bool) (cond : Cond) : Statement (.iret p cond) := all _
theorem reserved000 (p : Bool) (bits : BitVec 12) : Statement (.reserved000 p bits) := all _
theorem udi (p : Bool) (bits : BitVec 12) : Statement (.udi p bits) := all _
theorem rot (count : BitVec 6) (src dst : RegIx) (t : Instr) : Statement (.rot count src dst t) := all _
theorem lsh (count : BitVec 6) (src dst : RegIx) (t : Instr) : Statement (.lsh count src dst t) := all _
theorem ash (count : BitVec 6) (src dst : RegIx) (t : Instr) : Statement (.ash count src dst t) := all _
theorem lshc (count : BitVec 6) (src dst : RegIx) (t : Instr) : Statement (.lshc count src dst t) := all _
theorem reservedAop101x (w : BitVec 2) (x : Bool) (s2 s1 d : RegIx) (t : Instr) : Statement (.reservedAop101x w x s2 s1 d t) := all _
theorem reservedAop11x1 (w : BitVec 2) (x : Bool) (s2 s1 d : RegIx) (t : Instr) : Statement (.reservedAop11x1 w x s2 s1 d t) := all _
theorem reservedAop111x (w : BitVec 2) (s2 s1 d : RegIx) (t : Instr) : Statement (.reservedAop111x w s2 s1 d t) := all _
theorem w11 (arith : Bool) (code : BitVec 4) (s2 s1 d : RegIx) (t : Instr) : Statement (.w11 arith code s2 s1 d t) := all _
theorem log0W (s2 s1 d : RegIx) (t : Instr) : Statement (.log0W s2 s1 d t) := all _
theorem log0F (s2 s1 d : RegIx) (t : Instr) : Statement (.log0F s2 s1 d t) := all _
theorem log1W (s2 s1 d : RegIx) (t : Instr) : Statement (.log1W s2 s1 d t) := all _
theorem log1F (s2 s1 d : RegIx) (t : Instr) : Statement (.log1F s2 s1 d t) := all _
theorem log2W (s2 s1 d : RegIx) (t : Instr) : Statement (.log2W s2 s1 d t) := all _
theorem log2F (s2 s1 d : RegIx) (t : Instr) : Statement (.log2F s2 s1 d t) := all _
theorem log3W (s2 s1 d : RegIx) (t : Instr) : Statement (.log3W s2 s1 d t) := all _
theorem log3F (s2 s1 d : RegIx) (t : Instr) : Statement (.log3F s2 s1 d t) := all _
theorem log4W (s2 s1 d : RegIx) (t : Instr) : Statement (.log4W s2 s1 d t) := all _
theorem log4F (s2 s1 d : RegIx) (t : Instr) : Statement (.log4F s2 s1 d t) := all _
theorem log5W (s2 s1 d : RegIx) (t : Instr) : Statement (.log5W s2 s1 d t) := all _
theorem log5F (s2 s1 d : RegIx) (t : Instr) : Statement (.log5F s2 s1 d t) := all _
theorem log6W (s2 s1 d : RegIx) (t : Instr) : Statement (.log6W s2 s1 d t) := all _
theorem log6F (s2 s1 d : RegIx) (t : Instr) : Statement (.log6F s2 s1 d t) := all _
theorem log7W (s2 s1 d : RegIx) (t : Instr) : Statement (.log7W s2 s1 d t) := all _
theorem log7F (s2 s1 d : RegIx) (t : Instr) : Statement (.log7F s2 s1 d t) := all _
theorem log8W (s2 s1 d : RegIx) (t : Instr) : Statement (.log8W s2 s1 d t) := all _
theorem log8F (s2 s1 d : RegIx) (t : Instr) : Statement (.log8F s2 s1 d t) := all _
theorem log9W (s2 s1 d : RegIx) (t : Instr) : Statement (.log9W s2 s1 d t) := all _
theorem log9F (s2 s1 d : RegIx) (t : Instr) : Statement (.log9F s2 s1 d t) := all _
theorem log10W (s2 s1 d : RegIx) (t : Instr) : Statement (.log10W s2 s1 d t) := all _
theorem log10F (s2 s1 d : RegIx) (t : Instr) : Statement (.log10F s2 s1 d t) := all _
theorem log11W (s2 s1 d : RegIx) (t : Instr) : Statement (.log11W s2 s1 d t) := all _
theorem log11F (s2 s1 d : RegIx) (t : Instr) : Statement (.log11F s2 s1 d t) := all _
theorem log12W (s2 s1 d : RegIx) (t : Instr) : Statement (.log12W s2 s1 d t) := all _
theorem log12F (s2 s1 d : RegIx) (t : Instr) : Statement (.log12F s2 s1 d t) := all _
theorem log13W (s2 s1 d : RegIx) (t : Instr) : Statement (.log13W s2 s1 d t) := all _
theorem log13F (s2 s1 d : RegIx) (t : Instr) : Statement (.log13F s2 s1 d t) := all _
theorem log14W (s2 s1 d : RegIx) (t : Instr) : Statement (.log14W s2 s1 d t) := all _
theorem log14F (s2 s1 d : RegIx) (t : Instr) : Statement (.log14F s2 s1 d t) := all _
theorem log15W (s2 s1 d : RegIx) (t : Instr) : Statement (.log15W s2 s1 d t) := all _
theorem log15F (s2 s1 d : RegIx) (t : Instr) : Statement (.log15F s2 s1 d t) := all _
theorem subW (s2 s1 d : RegIx) (t : Instr) : Statement (.subW s2 s1 d t) := all _
theorem subF (s2 s1 d : RegIx) (t : Instr) : Statement (.subF s2 s1 d t) := all _
theorem subcW (s2 s1 d : RegIx) (t : Instr) : Statement (.subcW s2 s1 d t) := all _
theorem subcF (s2 s1 d : RegIx) (t : Instr) : Statement (.subcF s2 s1 d t) := all _
theorem incW (s2 s1 d : RegIx) (t : Instr) : Statement (.incW s2 s1 d t) := all _
theorem incF (s2 s1 d : RegIx) (t : Instr) : Statement (.incF s2 s1 d t) := all _
theorem adc0W (s2 s1 d : RegIx) (t : Instr) : Statement (.adc0W s2 s1 d t) := all _
theorem adc0F (s2 s1 d : RegIx) (t : Instr) : Statement (.adc0F s2 s1 d t) := all _
theorem decW (s2 s1 d : RegIx) (t : Instr) : Statement (.decW s2 s1 d t) := all _
theorem decF (s2 s1 d : RegIx) (t : Instr) : Statement (.decF s2 s1 d t) := all _
theorem deccW (s2 s1 d : RegIx) (t : Instr) : Statement (.deccW s2 s1 d t) := all _
theorem deccF (s2 s1 d : RegIx) (t : Instr) : Statement (.deccF s2 s1 d t) := all _
theorem addW (s2 s1 d : RegIx) (t : Instr) : Statement (.addW s2 s1 d t) := all _
theorem addF (s2 s1 d : RegIx) (t : Instr) : Statement (.addF s2 s1 d t) := all _
theorem addcW (s2 s1 d : RegIx) (t : Instr) : Statement (.addcW s2 s1 d t) := all _
theorem addcF (s2 s1 d : RegIx) (t : Instr) : Statement (.addcF s2 s1 d t) := all _
theorem mulfW (s2 s1 d : RegIx) (t : Instr) : Statement (.mulfW s2 s1 d t) := all _
theorem mulfF (s2 s1 d : RegIx) (t : Instr) : Statement (.mulfF s2 s1 d t) := all _
theorem mulsW (s2 s1 d : RegIx) (t : Instr) : Statement (.mulsW s2 s1 d t) := all _
theorem mulsF (s2 s1 d : RegIx) (t : Instr) : Statement (.mulsF s2 s1 d t) := all _
theorem negW (s2 s1 d : RegIx) (t : Instr) : Statement (.negW s2 s1 d t) := all _
theorem negF (s2 s1 d : RegIx) (t : Instr) : Statement (.negF s2 s1 d t) := all _

end Sys2Proof.Laws.ParallelBit

namespace Sys2Proof.Laws.LongFormat

/-- The encoded word is a long format exactly when the instruction carries a constant (R90, R91). -/
def Statement (i : Instr) : Prop := isLongWord (encodeWord i) = (constantOf i).isSome

/-- The two codes of R91 are those with bit 30 set and bit 28 clear. -/
theorem isLongWord_bits (w : Word) : isLongWord w = (w.getLsbD 30 && !w.getLsbD 28) := by
  have h (x : BitVec 3) : (x == 0b100#3 || x == 0b110#3) = (x.getLsbD 2 && !x.getLsbD 0) := by
    revert x
    decide
  rw [isLongWord, h]
  simp

theorem transfer_long (i : Instr) :
    ((encodeTransfer i).getLsbD 14 && !(encodeTransfer i).getLsbD 12) = (constantOf i).isSome := by
  induction i <;>
    first
    | assumption
    | (simp only [encodeTransfer, constantOf, encodeLsR, encodeLsI, encodeArm, encodeJump, encodeRet,
         BitVec.getLsbD_append, bitField]
       simp)

theorem all (i : Instr) : Statement i := by
  have h := transfer_long i
  simp only [Statement, isLongWord_bits, encodeWord, BitVec.getLsbD_append]
  simpa using h

theorem reservedAm011 (p store : Bool) (i : RegIx) (r : RegCode) : Statement (.reservedAm011 p store i r) := all _
theorem ldR (p : Bool) (am : AM) (i : RegIx) (r : RegCode) : Statement (.ldR p am i r) := all _
theorem stR (p : Bool) (am : AM) (i : RegIx) (r : RegCode) : Statement (.stR p am i r) := all _
theorem reservedAmc11 (p store : Bool) (i : RegIx) (r : RegCode) (k : Word) : Statement (.reservedAmc11 p store i r k) := all _
theorem ldI (p : Bool) (amc : AMC) (i : RegIx) (r : RegCode) (k : Word) : Statement (.ldI p amc i r k) := all _
theorem stI (p : Bool) (amc : AMC) (i : RegIx) (r : RegCode) (k : Word) : Statement (.stI p amc i r k) := all _
theorem mov (p : Bool) (rd rs : RegCode) : Statement (.mov p rd rs) := all _
theorem pswrSet (p : Bool) (k : Word) : Statement (.pswrSet p k) := all _
theorem pswrRst (p : Bool) (k : Word) : Statement (.pswrRst p k) := all _
theorem ldc (p : Bool) (rd : RegCode) (k : Word) : Statement (.ldc p rd k) := all _
theorem reservedRmc11 (p : Bool) (i : RegIx) (j : Fin 4) (k : Word) : Statement (.reservedRmc11 p i j k) := all _
theorem armI (p : Bool) (rmc : RMC) (i : RegIx) (j : Fin 4) (k : Word) : Statement (.armI p rmc i j k) := all _
theorem nopI (p : Bool) (k : Word) : Statement (.nopI p k) := all _
theorem jmpI (p : Bool) (pmc : PMC) (i : RegIx) (cond : Cond) (k : Word) : Statement (.jmpI p pmc i cond k) := all _
theorem callI (p : Bool) (pmc : PMC) (i : RegIx) (cond : Cond) (k : Word) : Statement (.callI p pmc i cond k) := all _
theorem reserved100 (p : Bool) (a : BitVec 6) (b : BitVec 4) (k : Word) : Statement (.reserved100 p a b k) := all _
theorem reservedRm11 (p : Bool) (i : RegIx) (j : Fin 4) : Statement (.reservedRm11 p i j) := all _
theorem armR (p : Bool) (rm : RM) (i : RegIx) (j : Fin 4) : Statement (.armR p rm i j) := all _
theorem nopR (p : Bool) : Statement (.nopR p) := all _
theorem reserved101 (p : Bool) (bits : BitVec 12) : Statement (.reserved101 p bits) := all _
theorem jmpR (p : Bool) (pm : PM) (i : RegIx) (cond : Cond) : Statement (.jmpR p pm i cond) := all _
theorem callR (p : Bool) (pm : PM) (i : RegIx) (cond : Cond) : Statement (.callR p pm i cond) := all _
theorem ret (p : Bool) (cond : Cond) : Statement (.ret p cond) := all _
theorem iret (p : Bool) (cond : Cond) : Statement (.iret p cond) := all _
theorem reserved000 (p : Bool) (bits : BitVec 12) : Statement (.reserved000 p bits) := all _
theorem udi (p : Bool) (bits : BitVec 12) : Statement (.udi p bits) := all _
theorem rot (count : BitVec 6) (src dst : RegIx) (t : Instr) : Statement (.rot count src dst t) := all _
theorem lsh (count : BitVec 6) (src dst : RegIx) (t : Instr) : Statement (.lsh count src dst t) := all _
theorem ash (count : BitVec 6) (src dst : RegIx) (t : Instr) : Statement (.ash count src dst t) := all _
theorem lshc (count : BitVec 6) (src dst : RegIx) (t : Instr) : Statement (.lshc count src dst t) := all _
theorem reservedAop101x (w : BitVec 2) (x : Bool) (s2 s1 d : RegIx) (t : Instr) : Statement (.reservedAop101x w x s2 s1 d t) := all _
theorem reservedAop11x1 (w : BitVec 2) (x : Bool) (s2 s1 d : RegIx) (t : Instr) : Statement (.reservedAop11x1 w x s2 s1 d t) := all _
theorem reservedAop111x (w : BitVec 2) (s2 s1 d : RegIx) (t : Instr) : Statement (.reservedAop111x w s2 s1 d t) := all _
theorem w11 (arith : Bool) (code : BitVec 4) (s2 s1 d : RegIx) (t : Instr) : Statement (.w11 arith code s2 s1 d t) := all _
theorem log0W (s2 s1 d : RegIx) (t : Instr) : Statement (.log0W s2 s1 d t) := all _
theorem log0F (s2 s1 d : RegIx) (t : Instr) : Statement (.log0F s2 s1 d t) := all _
theorem log1W (s2 s1 d : RegIx) (t : Instr) : Statement (.log1W s2 s1 d t) := all _
theorem log1F (s2 s1 d : RegIx) (t : Instr) : Statement (.log1F s2 s1 d t) := all _
theorem log2W (s2 s1 d : RegIx) (t : Instr) : Statement (.log2W s2 s1 d t) := all _
theorem log2F (s2 s1 d : RegIx) (t : Instr) : Statement (.log2F s2 s1 d t) := all _
theorem log3W (s2 s1 d : RegIx) (t : Instr) : Statement (.log3W s2 s1 d t) := all _
theorem log3F (s2 s1 d : RegIx) (t : Instr) : Statement (.log3F s2 s1 d t) := all _
theorem log4W (s2 s1 d : RegIx) (t : Instr) : Statement (.log4W s2 s1 d t) := all _
theorem log4F (s2 s1 d : RegIx) (t : Instr) : Statement (.log4F s2 s1 d t) := all _
theorem log5W (s2 s1 d : RegIx) (t : Instr) : Statement (.log5W s2 s1 d t) := all _
theorem log5F (s2 s1 d : RegIx) (t : Instr) : Statement (.log5F s2 s1 d t) := all _
theorem log6W (s2 s1 d : RegIx) (t : Instr) : Statement (.log6W s2 s1 d t) := all _
theorem log6F (s2 s1 d : RegIx) (t : Instr) : Statement (.log6F s2 s1 d t) := all _
theorem log7W (s2 s1 d : RegIx) (t : Instr) : Statement (.log7W s2 s1 d t) := all _
theorem log7F (s2 s1 d : RegIx) (t : Instr) : Statement (.log7F s2 s1 d t) := all _
theorem log8W (s2 s1 d : RegIx) (t : Instr) : Statement (.log8W s2 s1 d t) := all _
theorem log8F (s2 s1 d : RegIx) (t : Instr) : Statement (.log8F s2 s1 d t) := all _
theorem log9W (s2 s1 d : RegIx) (t : Instr) : Statement (.log9W s2 s1 d t) := all _
theorem log9F (s2 s1 d : RegIx) (t : Instr) : Statement (.log9F s2 s1 d t) := all _
theorem log10W (s2 s1 d : RegIx) (t : Instr) : Statement (.log10W s2 s1 d t) := all _
theorem log10F (s2 s1 d : RegIx) (t : Instr) : Statement (.log10F s2 s1 d t) := all _
theorem log11W (s2 s1 d : RegIx) (t : Instr) : Statement (.log11W s2 s1 d t) := all _
theorem log11F (s2 s1 d : RegIx) (t : Instr) : Statement (.log11F s2 s1 d t) := all _
theorem log12W (s2 s1 d : RegIx) (t : Instr) : Statement (.log12W s2 s1 d t) := all _
theorem log12F (s2 s1 d : RegIx) (t : Instr) : Statement (.log12F s2 s1 d t) := all _
theorem log13W (s2 s1 d : RegIx) (t : Instr) : Statement (.log13W s2 s1 d t) := all _
theorem log13F (s2 s1 d : RegIx) (t : Instr) : Statement (.log13F s2 s1 d t) := all _
theorem log14W (s2 s1 d : RegIx) (t : Instr) : Statement (.log14W s2 s1 d t) := all _
theorem log14F (s2 s1 d : RegIx) (t : Instr) : Statement (.log14F s2 s1 d t) := all _
theorem log15W (s2 s1 d : RegIx) (t : Instr) : Statement (.log15W s2 s1 d t) := all _
theorem log15F (s2 s1 d : RegIx) (t : Instr) : Statement (.log15F s2 s1 d t) := all _
theorem subW (s2 s1 d : RegIx) (t : Instr) : Statement (.subW s2 s1 d t) := all _
theorem subF (s2 s1 d : RegIx) (t : Instr) : Statement (.subF s2 s1 d t) := all _
theorem subcW (s2 s1 d : RegIx) (t : Instr) : Statement (.subcW s2 s1 d t) := all _
theorem subcF (s2 s1 d : RegIx) (t : Instr) : Statement (.subcF s2 s1 d t) := all _
theorem incW (s2 s1 d : RegIx) (t : Instr) : Statement (.incW s2 s1 d t) := all _
theorem incF (s2 s1 d : RegIx) (t : Instr) : Statement (.incF s2 s1 d t) := all _
theorem adc0W (s2 s1 d : RegIx) (t : Instr) : Statement (.adc0W s2 s1 d t) := all _
theorem adc0F (s2 s1 d : RegIx) (t : Instr) : Statement (.adc0F s2 s1 d t) := all _
theorem decW (s2 s1 d : RegIx) (t : Instr) : Statement (.decW s2 s1 d t) := all _
theorem decF (s2 s1 d : RegIx) (t : Instr) : Statement (.decF s2 s1 d t) := all _
theorem deccW (s2 s1 d : RegIx) (t : Instr) : Statement (.deccW s2 s1 d t) := all _
theorem deccF (s2 s1 d : RegIx) (t : Instr) : Statement (.deccF s2 s1 d t) := all _
theorem addW (s2 s1 d : RegIx) (t : Instr) : Statement (.addW s2 s1 d t) := all _
theorem addF (s2 s1 d : RegIx) (t : Instr) : Statement (.addF s2 s1 d t) := all _
theorem addcW (s2 s1 d : RegIx) (t : Instr) : Statement (.addcW s2 s1 d t) := all _
theorem addcF (s2 s1 d : RegIx) (t : Instr) : Statement (.addcF s2 s1 d t) := all _
theorem mulfW (s2 s1 d : RegIx) (t : Instr) : Statement (.mulfW s2 s1 d t) := all _
theorem mulfF (s2 s1 d : RegIx) (t : Instr) : Statement (.mulfF s2 s1 d t) := all _
theorem mulsW (s2 s1 d : RegIx) (t : Instr) : Statement (.mulsW s2 s1 d t) := all _
theorem mulsF (s2 s1 d : RegIx) (t : Instr) : Statement (.mulsF s2 s1 d t) := all _
theorem negW (s2 s1 d : RegIx) (t : Instr) : Statement (.negW s2 s1 d t) := all _
theorem negF (s2 s1 d : RegIx) (t : Instr) : Statement (.negF s2 s1 d t) := all _

end Sys2Proof.Laws.LongFormat
end

