-- ==== Sys2Proof/Laws/Step.lean ====
section
/-!
SUPPORT. What a step does around an instruction: what the inputs, the choice of an interrupt and moving on leave alone, and
when the fetch and the step answer.
-/

namespace Sys2Proof.Machine

/-! ### The other agents -/

/-- A store of the DMA co-processor is a store to plain memory, or nothing (R78; log 40). -/
theorem State.dmaStore_cases (s : State) (a v : Word) : s.dmaStore a v = s.setWord a v ∨ s.dmaStore a v = s := by
  unfold State.dmaStore
  split
  · exact .inl rfl
  · exact .inr rfl

/-- A store of the DMA co-processor to plain memory notes its word and keeps every note (R78; log 29, 40). -/
theorem State.mem_stored_dmaStore {s : State} {a v : Word} {n : Nat} :
    n ∈ (s.dmaStore a v).stored ↔ n ∈ s.stored ∨ memKindAt s.par.memMap a.toNat = some .plain ∧ n = a.toNat := by
  unfold State.dmaStore
  split <;> simp_all [mem_insertAddr, or_comm]

/-- A store of the DMA co-processor changes memory and the stored addresses only. -/
theorem State.dmaStore_frame (s : State) (a v : Word) : ∃ m st, s.dmaStore a v = { s with mem := m, stored := st } := by
  rcases State.dmaStore_cases s a v with h | h
  · exact ⟨_, _, h⟩
  · exact ⟨s.mem, s.stored, h⟩

/-- A store of the DMA co-processor keeps the canonical form. -/
theorem State.dmaStore_wf {s : State} (a v : Word) (h : s.wf = true) : (s.dmaStore a v).wf = true := by
  rcases State.dmaStore_cases s a v with e | e
  · rw [e]
    simp only [State.wf, Bool.and_eq_true] at h ⊢
    exact setWord_rising a v h.1 h.2
  · rw [e]
    exact h

/-- What an agent does changes nothing but the requests, the DMA request bits, the DMA channels, memory and the stored
addresses. -/
theorem act_frame (s : State) (x : Input) :
    ∃ r d c m st, act s x = { s with requests := r, dmaRequests := d, dma := c, mem := m, stored := st } := by
  cases x with
  | dmaStoreWord a v =>
    obtain ⟨m, st, h⟩ := State.dmaStore_frame s a v
    exact ⟨s.requests, s.dmaRequests, s.dma, m, st, h⟩
  | dmaStorePair a v =>
    obtain ⟨m, st, h⟩ := State.dmaStore_frame s (evenWord a) (v.extractLsb' 0 32)
    obtain ⟨m', st', h'⟩ :=
      State.dmaStore_frame (s.dmaStore (evenWord a) (v.extractLsb' 0 32)) (oddWord a) (v.extractLsb' 32 32)
    exact ⟨s.requests, s.dmaRequests, s.dma, m', st', h'.trans (by rw [h])⟩
  | request q => exact ⟨_, s.dmaRequests, s.dma, s.mem, s.stored, rfl⟩
  | dmaChannel c regs => exact ⟨s.requests, s.dmaRequests, _, s.mem, s.stored, rfl⟩
  | dmaRequests bits => exact ⟨s.requests, bits, s.dma, s.mem, s.stored, rfl⟩

/-- An input is what its agent does, or nothing where there is no such agent (R330, R336). -/
theorem applyInput_cases (s : State) (x : Input) : applyInput s x = act s x ∨ applyInput s x = s := by
  unfold applyInput
  split
  · exact .inl rfl
  · exact .inr rfl

theorem applyInput_frame (s : State) (x : Input) :
    ∃ r d c m st, applyInput s x = { s with requests := r, dmaRequests := d, dma := c, mem := m, stored := st } := by
  rcases applyInput_cases s x with h | h
  · rw [h]
    exact act_frame s x
  · exact ⟨s.requests, s.dmaRequests, s.dma, s.mem, s.stored, h⟩

theorem foldl_applyInput_frame (xs : List Input) (s : State) :
    ∃ r d c m st,
      xs.foldl applyInput s = { s with requests := r, dmaRequests := d, dma := c, mem := m, stored := st } := by
  induction xs generalizing s with
  | nil => exact ⟨s.requests, s.dmaRequests, s.dma, s.mem, s.stored, rfl⟩
  | cons x rest ih =>
    obtain ⟨r, d, c, m, st, h⟩ := applyInput_frame s x
    obtain ⟨r', d', c', m', st', h'⟩ := ih (applyInput s x)
    exact ⟨r', d', c', m', st', by rw [List.foldl_cons, h', h]⟩

/-- The inputs of a step boundary leave the core's own state alone. -/
theorem State.takeInputs_frame (s : State) :
    ∃ r d c m st,
      s.takeInputs =
        { s with requests := r, dmaRequests := d, dma := c, mem := m, stored := st, inputs := s.inputs.tail } := by
  cases h : s.inputs with
  | nil =>
    exact ⟨s.requests, s.dmaRequests, s.dma, s.mem, s.stored,
      by simp only [State.takeInputs, h, List.tail_nil]; rw [← h]⟩
  | cons now later =>
    simp only [State.takeInputs, h]
    exact foldl_applyInput_frame now { s with inputs := later }

theorem applyInput_wf {s : State} (x : Input) (h : s.wf = true) : (applyInput s x).wf = true := by
  rcases applyInput_cases s x with e | e
  · rw [e]
    cases x with
    | dmaStoreWord a v => exact State.dmaStore_wf a v h
    | dmaStorePair a v => exact State.dmaStore_wf _ _ (State.dmaStore_wf _ _ h)
    | _ => exact h
  · rw [e]
    exact h

/-- The inputs of a step boundary keep the canonical form. -/
theorem State.takeInputs_wf {s : State} (h : s.wf = true) : s.takeInputs.wf = true := by
  have aux (xs : List Input) (s : State) (h : s.wf = true) : (xs.foldl applyInput s).wf = true := by
    induction xs generalizing s with
    | nil => exact h
    | cons x rest ih => exact ih _ (applyInput_wf x h)
  unfold State.takeInputs
  split
  · exact h
  · exact aux _ { s with inputs := _ } h

/-- A timer that moves on changes itself and the requests only. -/
theorem State.tick_frame (s : State) (t : Timer) (c : TimerCounter) :
    ∃ r x y, s.tick t c = { s with requests := r, t0 := x, t1 := y } := by
  unfold State.tick
  split <;> cases t
  · exact ⟨_, _, s.t1, rfl⟩
  · exact ⟨_, s.t0, _, rfl⟩
  · exact ⟨s.requests, _, s.t1, rfl⟩
  · exact ⟨s.requests, s.t0, _, rfl⟩

/-- The timers move only themselves and the requests (R330). -/
theorem State.tickTimers_frame (s : State) : ∃ r x y, s.tickTimers = { s with requests := r, t0 := x, t1 := y } := by
  unfold State.tickTimers
  split
  · exact ⟨s.requests, s.t0, s.t1, rfl⟩
  · rename_i c0 c1 _
    obtain ⟨r, x, y, h⟩ := State.tick_frame s .t0 c0
    obtain ⟨r', x', y', h'⟩ := State.tick_frame (s.tick .t0 c0) .t1 c1
    exact ⟨r', x', y', h'.trans (by rw [h])⟩

/-- What the other agents do at a step boundary leaves the core's own state alone. -/
theorem State.agentsAct_frame (s : State) :
    ∃ r d x y c m st,
      s.agentsAct =
        { s with
          requests := r, dmaRequests := d, t0 := x, t1 := y, dma := c, mem := m, stored := st
          inputs := s.inputs.tail } := by
  obtain ⟨r, d, c, m, st, h⟩ := State.takeInputs_frame s
  obtain ⟨r', x, y, h'⟩ := State.tickTimers_frame s.takeInputs
  exact ⟨r', d, x, y, c, m, st, by rw [State.agentsAct, h', h]⟩

/-- What the other agents do keeps the canonical form. -/
theorem State.agentsAct_wf {s : State} (h : s.wf = true) : s.agentsAct.wf = true := by
  obtain ⟨r, x, y, e⟩ := State.tickTimers_frame s.takeInputs
  rw [State.agentsAct, e]
  exact State.takeInputs_wf h

/-! ### The choice of an interrupt -/

/-- Choosing an interrupt changes the wait and the counter of the free values only. -/
theorem irqDecision_frame (s : State) : ∃ w d, (irqDecision s).2 = { s with irqWait := w, draws := d } := by
  unfold irqDecision State.advanceDraws
  split
  · split
    · exact ⟨none, s.draws, rfl⟩
    · dsimp only
      split <;> (dsimp only; split <;> exact ⟨_, _, rfl⟩)
  · exact ⟨s.irqWait, s.draws, rfl⟩

/-- An interrupt is entered only at a point of R309, and it is the enabled request of highest priority. -/
theorem irqDecision_some {s : State} {n : Irq} (h : (irqDecision s).1 = some n) :
    s.irqPoint = true ∧ s.enabledIrq = some n := by
  unfold irqDecision at h
  split at h
  · rename_i hp
    split at h
    · cases h
    · rename_i m hm
      dsimp only at h
      split at h
      · cases h
        exact ⟨hp, hm⟩
      · cases h
  · cases h

/-! ### The fetch and the step -/

/-- When a fetch answers (R66, R73, R78). -/
theorem State.fetch_eq_next {s : State} {f : DWord} :
    s.fetch = .next f ↔ s.access s.pc true = .next () ∧ s.codeStored = false ∧ f = s.readValue s.pc true := by
  simp only [State.fetch, andThen_eq_next, State.memRead_eq_next]
  constructor
  · rintro ⟨v, ⟨h, rfl⟩, e⟩
    by_cases hc : s.codeStored = true
    · simp [hc] at e
    · simp only [hc, Bool.false_eq_true, if_false, Host.Outcome.next.injEq] at e
      exact ⟨h, by simpa using hc, e.symm⟩
  · rintro ⟨h, hc, rfl⟩
    exact ⟨_, ⟨h, rfl⟩, by simp [hc]⟩

/-- When an instruction is fetched and executed, and with what (R126). -/
theorem runInstr_eq_next {s u : State} :
    runInstr s = .next u ↔
      ∃ f i t, s.fetch = .next f ∧ decodeFetch f s.slot = some i ∧ exec i s = .next t ∧
        u = afterInstr (isLongWord (fetchedWord f s.slot)) s t := by
  simp only [runInstr, andThen_eq_next]
  constructor
  · rintro ⟨f, hf, h⟩
    split at h
    · cases h
    · rename_i i hi
      simp only [andThen_eq_next] at h
      obtain ⟨t, ht, e⟩ := h
      exact ⟨f, i, t, hf, hi, ht, (Host.Outcome.next.inj e).symm⟩
  · rintro ⟨f, i, t, hf, hi, ht, rfl⟩
    refine ⟨f, hf, ?_⟩
    simp [hi, ht, andThen]

/-- A step enters an interrupt or executes an instruction (R126). -/
theorem step_eq_next {s u : State} :
    step s = .next u ↔
      (∃ n, (irqDecision s.agentsAct).1 = some n ∧ enterInterrupt n (irqDecision s.agentsAct).2 = .next u) ∨
        ((irqDecision s.agentsAct).1 = none ∧ runInstr (irqDecision s.agentsAct).2 = .next u) := by
  unfold step stepOnce
  rcases h : irqDecision s.agentsAct with ⟨d, t⟩
  cases d <;> simp

/-- The end of a fetch word changes PC, the slot and the pending transfer only. -/
theorem State.nextWord_frame (s : State) : ∃ pc sl pe, s.nextWord = { s with pc := pc, slot := sl, pending := pe } := by
  unfold State.nextWord
  split
  · exact ⟨_, _, s.pending, rfl⟩
  · exact ⟨_, _, _, rfl⟩
  · exact ⟨_, _, _, rfl⟩

/-- Moving on changes PC, the slot and the pending transfer only (R126). -/
theorem advance_frame (long : Bool) (before after : State) :
    ∃ pc sl pe, advance long before after = { after with pc := pc, slot := sl, pending := pe } := by
  unfold advance
  split
  · exact State.nextWord_frame after
  · exact ⟨after.pc, true, after.pending, rfl⟩

/-- A trace request changes the requests only (R318). -/
theorem State.traced_frame (s : State) : ∃ r, s.traced = { s with requests := r } := by
  unfold State.traced
  split
  · exact ⟨s.requests, rfl⟩
  · split
    · exact ⟨_, rfl⟩
    · exact ⟨s.requests, rfl⟩

/-- What follows an instruction changes PC, the slot, the pending transfer and the trace request only (R126, R318). -/
theorem afterInstr_frame (long : Bool) (before after : State) :
    ∃ pc sl pe r,
      afterInstr long before after = { after with pc := pc, slot := sl, pending := pe, requests := r } := by
  obtain ⟨pc, sl, pe, h⟩ := advance_frame long before after
  obtain ⟨r, h'⟩ := State.traced_frame (advance long before after)
  exact ⟨pc, sl, pe, r, by rw [afterInstr, h', h]⟩

end Sys2Proof.Machine
end

