-- ==== Sys2Proof/Tests/Slice0.lean ====
section
/-!
SUPPORT. Tests. The expected results are those of spec/95_test_vectors.md (the section stands in each heading), which derives
them from the rules by hand, or are worked out from the encoding drawn in spec/30_encoding.md. The last part gives, for each
obligation with hypotheses, a state and operands that meet them.
-/

namespace Sys2Proof.Tests

open Sys2Proof Sys2Proof.Machine

/-! ### Helpers -/

/-- A layout of the flags: N, Z, V, C in bits 31 to 28. -/
def testLayout : PswrLayout := { n := 31, z := 30, v := 29, c := 28, distinct := by decide }

/-- A layout of INTR: interrupt n in bit n - 1, DMA requests in bits 17:16. -/
def testIntrLayout : IntrLayout := { pos := #v[0, 1, 2, 3, 4, 5, 6, 7, 8, 9], dmaMask := 0x00030000, distinct := by decide }

/-- Parameters with every open one given: no delay, no interrupt enabled, count field 5 shifts left by 5 and 1 right by 4,
and LOP_MAP(k) the function whose table is k. -/
def testParams : Params where
  pairOrder := .firstHigh
  stackDir := .up
  shiftFlags := .none
  overflowIrq := .onStoredV
  traceMode := .off
  pMode := .refuse
  w11Mode := .both
  delayRestOfWord := false
  delayWords := 0
  pcReadAhead := 1
  pswrLayout := testLayout
  intrLayout := testIntrLayout
  irqPredicates := Vector.replicate 10 []
  shiftTable := ((Vector.replicate 64 (.left, 0)).set 1 (.right, 4)).set 5 (.left, 5)
  lopTable := Vector.ofFn fun k => BitVec.ofNat 4 k.val
  memMap := [{ base := 0, size := 2 ^ 32, kind := .plain }]
  dmaModel := .none
  timerModel := .environment
  irqEntryPswr := .identity
  callReturnPc := .afterDelaySlots

/-- The state after reset with the parameters of the tests. -/
def testState : State := { State.reset with par := testParams }

/-- `testState` with BRANCH_DELAY = (rest, words). -/
def delayState (rest : Bool) (words : Nat) : State :=
  { testState with par := { testParams with delayRestOfWord := rest, delayWords := words } }

/-- `testState` with STACK_DIR = down. -/
def downState : State := { testState with par := { testParams with stackDir := .down } }

/-- `testState` with every interrupt enabled and no wait left. -/
def irqState : State :=
  { testState with par := { testParams with irqPredicates := Vector.replicate 10 [(0, 0)] }, irqWait := some 0 }

/-- `testState` with a memory map. -/
def mapState (map : List Region) : State := { testState with par := { testParams with memMap := map } }

/-- `testState` with other parameters. -/
def parState (f : Params → Params) : State := { testState with par := f testParams }

/-- The words 0x1FE to 0x203 of section 3. -/
def loadMemory (s : State) : State :=
  { s with mem := [(0x1FE, 0x88888888), (0x1FF, 0x99999999), (0x200, 0xAAAA0000), (0x201, 0xBBBB1111),
      (0x202, 0xCCCC2222), (0x203, 0xDDDD3333)] }

/-- What a completed computation leaves, seen through `f`; none for a stop. -/
def observe {α : Type} (r : Result State) (f : State → α) : Option α :=
  match r with
  | .next t => some (f t)
  | .fault _ => none
  | .refused _ => none

/-- The instruction of a word and its constant, executed. -/
def run (w k : Word) (s : State) : Result State := exec (decode w k) s

/-- N, Z, V, C. -/
def nzvc (s : State) : Bool × Bool × Bool × Bool := (s.flags.n, s.flags.z, s.flags.v, s.flags.c)

/-- One step with the fetch word `f` at PC. -/
def stepOn (f : DWord) (s : State) : Result State := step (s.placeFetchWord f)

/-- PC, slot and pending. -/
structure Place where
  pc : Word
  slot : Bool
  pending : Option Pending
deriving DecidableEq, Repr

/-- Where the machine stands. -/
def place (s : State) : Place := { pc := s.pc, slot := s.slot, pending := s.pending }

/-! ### WellFormed: an ill-formed term for each check -/

theorem test_ill_formed_operand_not_transfer : Instr.wellFormed (.addW 0 1 2 (.addW 0 1 2 (.nopR false))) = false := by decide

theorem test_ill_formed_null_rot : Instr.wellFormed (.rot 0 3 3 (.nopR false)) = false := by decide

theorem test_ill_formed_operand_ill_formed : Instr.wellFormed (.addW 0 1 2 (.ldc false 0b111101 0)) = false := by decide

theorem test_ill_formed_ldc_pswr_set : Instr.wellFormed (.ldc false 0b111101 5) = false := by decide

theorem test_ill_formed_ldc_pswr_reset : Instr.wellFormed (.ldc false 0b011101 5) = false := by decide

theorem test_ill_formed_reserved000_jump : Instr.wellFormed (.reserved000 false 0x020) = false := by decide

theorem test_ill_formed_reserved000_return : Instr.wellFormed (.reserved000 false 0x3F0) = false := by decide

theorem test_ill_formed_reserved101_nop : Instr.wellFormed (.reserved101 false 0x010) = false := by decide

theorem test_ill_formed_reservedAop101x_w00 : Instr.wellFormed (.reservedAop101x 0b00 false 0 0 0 (.nopR false)) = false := by decide

theorem test_ill_formed_reservedAop11x1_w00 : Instr.wellFormed (.reservedAop11x1 0b00 false 0 0 0 (.nopR false)) = false := by decide

theorem test_ill_formed_reservedAop111x_w00 : Instr.wellFormed (.reservedAop111x 0b00 0 0 0 (.nopR false)) = false := by decide

theorem test_ill_formed_w11_reserved_aop : Instr.wellFormed (.w11 true 0b1010 0 0 0 (.nopR false)) = false := by decide

theorem test_well_formed_word : Instr.wellFormed (.addW 0 1 2 (.ldR false .postInc 0 0b010001)) = true := by decide

/-! ### Decoding: a word for every constructor (section 2, and R93 to R111) -/

theorem test_decode_reservedAm011 : decode 0x2C110000 0 = .reservedAm011 false false 0 0b010001 := by decide

theorem test_decode_ldR : decode 0x24530000 0 = .ldR false .preAddGr 1 0b010011 := by decide

theorem test_decode_stR : decode 0x3FE20000 0 = .stR false .postInc 7 0b100010 := by decide

theorem test_decode_reservedAmc11 : decode 0x6C900000 7 = .reservedAmc11 false false 2 0b010000 7 := by decide

theorem test_decode_ldI : decode 0x64900000 4 = .ldI false .preAddK 2 0b010000 4 := by decide

theorem test_decode_stI : decode 0x6AC30000 0x300 = .stI false .loadK 3 0b000011 0x300 := by decide

theorem test_decode_mov : decode 0x75430000 0 = .mov false 0b010101 0b000011 := by decide

theorem test_decode_pswrSet : decode 0x4F400000 5 = .pswrSet false 5 := by decide

theorem test_decode_pswrRst : decode 0x47400000 5 = .pswrRst false 5 := by decide

theorem test_decode_ldc : decode 0x41C00000 0x2000 = .ldc false 0b000111 0x2000 := by decide

theorem test_decode_reservedRmc11 : decode 0x4ED00000 9 = .reservedRmc11 false 3 0 9 := by decide

theorem test_decode_armI : decode 0x46130000 8 = .armI false .arAddK 0 3 8 := by decide

theorem test_decode_nopI : decode 0x40100000 0xDEADBEEF = .nopI false 0xDEADBEEF := by decide

theorem test_decode_jmpI : decode 0x44A70000 0xFFFFFFFE = .jmpI false .arAddK 2 .al 0xFFFFFFFE := by decide

theorem test_decode_callI : decode 0x4A270000 0x100 = .callI false .k 0 .al 0x100 := by decide

theorem test_decode_reserved100 : decode 0x40300000 1 = .reserved100 false 0 0 1 := by decide

theorem test_decode_reservedRm11 : decode 0x5E510000 0 = .reservedRm11 false 1 1 := by decide

theorem test_decode_armR : decode 0x5B520000 0 = .armR false .gr 5 2 := by decide

theorem test_decode_nopR : decode 0x5C100000 0 = .nopR false := by decide

theorem test_decode_reserved101 : decode 0x50200000 0 = .reserved101 false 0x020 := by decide

theorem test_decode_jmpR : decode 0x046E0000 0 = .jmpR false .arAddGr 1 .eq := by decide

theorem test_decode_callR : decode 0x0B270000 0 = .callR false .gr 4 .al := by decide

theorem test_decode_ret : decode 0x03FE0000 0 = .ret false .eq := by decide

theorem test_decode_iret : decode 0x0BF70000 0 = .iret false .al := by decide

theorem test_decode_reserved000 : decode 0x00370000 0 = .reserved000 false 0x037 := by decide

theorem test_decode_udi : decode 0x10000000 0 = .udi false 0 := by decide

theorem test_decode_rot : decode 0x5010004A 0 = .rot 1 1 2 (.nopR false) := by decide

theorem test_decode_lsh : decode 0x5010114A 0 = .lsh 5 1 2 (.nopR false) := by decide

theorem test_decode_ash : decode 0x50102008 0 = .ash 0 1 0 (.nopR false) := by decide

theorem test_decode_lshc : decode 0x50103000 0 = .lshc 0 0 0 (.nopR false) := by decide

theorem test_decode_reservedAop101x : decode 0x50107400 0 = .reservedAop101x 0b01 false 0 0 0 (.nopR false) := by decide

theorem test_decode_reservedAop11x1 : decode 0x5010BE00 0 = .reservedAop11x1 0b10 true 0 0 0 (.nopR false) := by decide

theorem test_decode_reservedAop111x : decode 0x50107C00 0 = .reservedAop111x 0b01 0 0 0 (.nopR false) := by decide

theorem test_decode_w11 : decode 0x5010EC0A 0 = .w11 true 0b0110 0 1 2 (.nopR false) := by decide

theorem test_decode_log0 : decode 0x50104050 0 = .log0W 1 2 0 (.nopR false) ∧
    decode 0x50108050 0 = .log0F 1 2 0 (.nopR false) := by decide

theorem test_decode_log1 : decode 0x50104250 0 = .log1W 1 2 0 (.nopR false) ∧
    decode 0x50108250 0 = .log1F 1 2 0 (.nopR false) := by decide

theorem test_decode_log2 : decode 0x50104450 0 = .log2W 1 2 0 (.nopR false) ∧
    decode 0x50108450 0 = .log2F 1 2 0 (.nopR false) := by decide

theorem test_decode_log3 : decode 0x50104650 0 = .log3W 1 2 0 (.nopR false) ∧
    decode 0x50108650 0 = .log3F 1 2 0 (.nopR false) := by decide

theorem test_decode_log4 : decode 0x50104850 0 = .log4W 1 2 0 (.nopR false) ∧
    decode 0x50108850 0 = .log4F 1 2 0 (.nopR false) := by decide

theorem test_decode_log5 : decode 0x50104A50 0 = .log5W 1 2 0 (.nopR false) ∧
    decode 0x50108A50 0 = .log5F 1 2 0 (.nopR false) := by decide

theorem test_decode_log6 : decode 0x50104C50 0 = .log6W 1 2 0 (.nopR false) ∧
    decode 0x50108C50 0 = .log6F 1 2 0 (.nopR false) := by decide

theorem test_decode_log7 : decode 0x50104E50 0 = .log7W 1 2 0 (.nopR false) ∧
    decode 0x50108E50 0 = .log7F 1 2 0 (.nopR false) := by decide

theorem test_decode_log8 : decode 0x50105050 0 = .log8W 1 2 0 (.nopR false) ∧
    decode 0x50109050 0 = .log8F 1 2 0 (.nopR false) := by decide

theorem test_decode_log9 : decode 0x50105250 0 = .log9W 1 2 0 (.nopR false) ∧
    decode 0x50109250 0 = .log9F 1 2 0 (.nopR false) := by decide

theorem test_decode_log10 : decode 0x50105450 0 = .log10W 1 2 0 (.nopR false) ∧
    decode 0x50109450 0 = .log10F 1 2 0 (.nopR false) := by decide

theorem test_decode_log11 : decode 0x50105650 0 = .log11W 1 2 0 (.nopR false) ∧
    decode 0x50109650 0 = .log11F 1 2 0 (.nopR false) := by decide

theorem test_decode_log12 : decode 0x50105850 0 = .log12W 1 2 0 (.nopR false) ∧
    decode 0x50109850 0 = .log12F 1 2 0 (.nopR false) := by decide

theorem test_decode_log13 : decode 0x50105A50 0 = .log13W 1 2 0 (.nopR false) ∧
    decode 0x50109A50 0 = .log13F 1 2 0 (.nopR false) := by decide

theorem test_decode_log14 : decode 0x50105C50 0 = .log14W 1 2 0 (.nopR false) ∧
    decode 0x50109C50 0 = .log14F 1 2 0 (.nopR false) := by decide

theorem test_decode_log15 : decode 0x50105E50 0 = .log15W 1 2 0 (.nopR false) ∧
    decode 0x50109E50 0 = .log15F 1 2 0 (.nopR false) := by decide

theorem test_decode_sub : decode 0x5010605D 0 = .subW 1 3 5 (.nopR false) ∧
    decode 0x5010A05D 0 = .subF 1 3 5 (.nopR false) := by decide

theorem test_decode_subc : decode 0x5010625D 0 = .subcW 1 3 5 (.nopR false) ∧
    decode 0x5010A25D 0 = .subcF 1 3 5 (.nopR false) := by decide

theorem test_decode_inc : decode 0x5010645D 0 = .incW 1 3 5 (.nopR false) ∧
    decode 0x5010A45D 0 = .incF 1 3 5 (.nopR false) := by decide

theorem test_decode_adc0 : decode 0x5010665D 0 = .adc0W 1 3 5 (.nopR false) ∧
    decode 0x5010A65D 0 = .adc0F 1 3 5 (.nopR false) := by decide

theorem test_decode_dec : decode 0x5010685D 0 = .decW 1 3 5 (.nopR false) ∧
    decode 0x5010A85D 0 = .decF 1 3 5 (.nopR false) := by decide

theorem test_decode_decc : decode 0x50106A5D 0 = .deccW 1 3 5 (.nopR false) ∧
    decode 0x5010AA5D 0 = .deccF 1 3 5 (.nopR false) := by decide

theorem test_decode_add : decode 0x50106C5D 0 = .addW 1 3 5 (.nopR false) ∧
    decode 0x5010AC5D 0 = .addF 1 3 5 (.nopR false) := by decide

theorem test_decode_addc : decode 0x50106E5D 0 = .addcW 1 3 5 (.nopR false) ∧
    decode 0x5010AE5D 0 = .addcF 1 3 5 (.nopR false) := by decide

theorem test_decode_mulf : decode 0x5010705D 0 = .mulfW 1 3 5 (.nopR false) ∧
    decode 0x5010B05D 0 = .mulfF 1 3 5 (.nopR false) := by decide

theorem test_decode_muls : decode 0x5010725D 0 = .mulsW 1 3 5 (.nopR false) ∧
    decode 0x5010B25D 0 = .mulsF 1 3 5 (.nopR false) := by decide

theorem test_decode_neg : decode 0x5010785D 0 = .negW 1 3 5 (.nopR false) ∧
    decode 0x5010B85D 0 = .negF 1 3 5 (.nopR false) := by decide

theorem test_decode_two_parts : decode 0x3C12A841 0 = .decF 1 0 1 (.ldR false .postInc 0 0b010010) := by decide

theorem test_decode_fetch_halves : decodeFetch 0x501068413C12A841 true = some (.decW 1 0 1 (.nopR false)) ∧
    decodeFetch 0x0000010648260000 false = some (.jmpI false .k 0 .ne 0x106) ∧
    decodeFetch 0x4827000050100000 true = none := by decide

/-! ### Loads and stores (section 3) -/

theorem test_ldR_pair_postInc :
    observe (run 0x3C220000 0 ((loadMemory testState).setAr 0 0x202)) (fun t => (t.readGr 2, t.readAr 2, t.readAr 0)) =
      some (0xDDDD3333, 0xCCCC2222, 0x204) := by decide

theorem test_ldR_old_gr_updates :
    observe (run 0x34100000 0 (((loadMemory testState).setAr 0 0x200).setGr 0 4)) (fun t => (t.readGr 0, t.readAr 0)) =
      some (0xAAAA0000, 0x204) := by decide

theorem test_stR_pair_postInc :
    observe (run 0x3FE20000 0 (((testState.setAr 7 0x2000).setGr 2 0x11111111).setAr 2 0x22222222))
      (fun t => (t.word 0x2000, t.word 0x2001, t.readAr 7)) = some (0x22222222, 0x11111111, 0x2002) := by decide

theorem test_stR_old_ar_stored :
    observe (run 0x3E000000 0 (testState.setAr 0 0x300)) (fun t => (t.word 0x300, t.readAr 0)) = some (0x300, 0x301) := by decide

theorem test_ldI_preAdd_wraps :
    observe (run 0x64900000 0xFFFFFFFF ((loadMemory testState).setAr 2 0x200)) (fun t => (t.readGr 0, t.readAr 2)) =
      some (0x99999999, 0x1FF) := by decide

theorem test_ldI_pair :
    observe (run 0x60240000 0x202 (loadMemory testState)) (fun t => (t.readGr 4, t.readAr 4)) = some (0xDDDD3333, 0xCCCC2222) := by decide

theorem test_stI_load_mode_old_ar :
    observe (run 0x6AC30000 0x300 (testState.setAr 3 0x44)) (fun t => (t.word 0x300, t.readAr 3)) = some (0x44, 0x300) := by decide

theorem test_stI_pair :
    observe (run 0x67660000 2 (((testState.setAr 5 0x300).setGr 6 0xAAAAAAAA).setAr 6 0xBBBBBBBB))
      (fun t => (t.word 0x302, t.word 0x303, t.readAr 5)) = some (0xBBBBBBBB, 0xAAAAAAAA, 0x302) := by decide

theorem test_ldR_write_conflict : run 0x3C000000 0 ((loadMemory testState).setAr 0 0x200) = .refused .writeConflict := by rfl

theorem test_reservedAm011 : run 0x2C110000 0 testState = .fault .illegalInstruction := by rfl

theorem test_reservedAmc11 : run 0x6C900000 0 testState = .fault .illegalInstruction := by rfl

theorem test_load_beside_add :
    observe (run 0x3C116C4A 0 (((loadMemory testState).setAr 0 0x200).setGr 1 7)) (fun t => (t.readGr 1, t.readGr 2, t.readAr 0)) =
      some (0xAAAA0000, 0xE, 0x201) := by decide

theorem test_load_beside_inc_conflict : run 0x3C116441 0 (((loadMemory testState).setAr 0 0x200).setGr 1 7) = .refused .writeConflict := by rfl

/-! ### Moves, constants, PSWR, address modification (sections 4 and 5) -/

theorem test_mov_pair :
    observe (run 0x78600000 0 ((testState.setGr 0 1).setAr 0 2)) (fun t => (t.readGr 1, t.readAr 1)) = some (1, 2) := by decide

theorem test_mov_width : run 0x74600000 0 testState = .refused .moveWidth := by rfl

/-- Under DMA_MODEL = none what could start a DMA transfer is refused (R336). -/
theorem test_dma_refused : exec (.mov false 0b001000 (codeGr 1)) testState = .refused .dmaAccess ∧
    exec (.mov false (codePair 1) 0b101101) testState = .refused .dmaAccess ∧
    exec (.ldc false 0b011011 5) testState = .refused .dmaAccess ∧
    exec (.stI false .absolute 0 0b101110 0x200) testState = .refused .dmaAccess ∧
    exec (.ldI false .absolute 0 0b101101 0x200) testState = .refused .dmaAccess ∧
    exec (.mov false (codeGr 1) 0b001000) testState = .next testState := ⟨rfl, rfl, rfl, rfl, rfl, rfl⟩

theorem test_ldc :
    observe (run 0x41C00000 0x2000 testState) (fun t => t.readAr 7) = some 0x2000 := by decide

theorem test_ldc_width : run 0x48000000 0 testState = .refused .constantWidth := by rfl

theorem test_pswrSet :
    observe (run 0x4F400000 5 { testState with pswr := 2 }) State.pswr = some 7 := by decide

theorem test_pswrRst :
    observe (run 0x47400000 5 { testState with pswr := 7 }) State.pswr = some 2 := by decide

theorem test_armI_wraps :
    observe (run 0x46D00000 2 (testState.setAr 3 0xFFFFFFFF)) (fun t => t.readAr 0) = some 1 := by decide

theorem test_armI_constant :
    observe (run 0x4B100000 0x300 testState) (fun t => t.readAr 4) = some 0x300 := by decide

theorem test_armR_sum :
    observe (run 0x56520000 0 ((testState.setAr 1 0x100).setGr 1 0x10)) (fun t => t.readAr 2) = some 0x110 := by decide

theorem test_armR_upper_half :
    observe (run 0x5B520000 0 (testState.setGr 5 0x77)) (fun t => (t.readAr 6, t.readAr 2)) = some (0x77, 0) := by decide

theorem test_reservedRmc11 : run 0x4ED00000 0 testState = .fault .illegalInstruction := by rfl

theorem test_reservedRm11 : run 0x5E510000 0 testState = .fault .illegalInstruction := by rfl

theorem test_reserved100 : run 0x40300000 0 testState = .fault .illegalInstruction := by rfl

theorem test_reserved101 : run 0x50000000 0 testState = .fault .illegalInstruction := by rfl

theorem test_nopR :
    observe (stepOn 0x5010000050100000 testState) place = some ⟨0x100, true, none⟩ := by decide

theorem test_nopI :
    observe (stepOn 0xDEADBEEF40100000 testState) place = some ⟨0x102, false, none⟩ := by decide

/-! ### The OP part (section 6) -/

theorem test_rot_right_by_4 :
    observe (run 0x5010004A 0 (testState.setGr 1 0x88000001)) (fun t => t.readGr 2) = some 0x18800000 := by decide

theorem test_lsh_left_by_5 :
    observe (run 0x5010114A 0 (testState.setGr 1 0x88000001)) (fun t => t.readGr 2) = some 0x20 := by decide

theorem test_ash_right_by_4 :
    observe (run 0x5010204A 0 (testState.setGr 1 0x80000010)) (fun t => t.readGr 2) = some 0xF8000001 := by decide

theorem test_lshc_nonzero_count : run 0x50103040 0 testState = .refused .shiftThroughCarry := by rfl

theorem test_lshc_zero_count :
    observe (run 0x5010300A 0 (testState.setGr 1 9)) (fun t => t.readGr 2) = some 9 := by decide

/-- LOP_MAP(k) is the function with table k here, so operands 1100 and 1010 give k in the low four bits, and bit 0 of k above. -/
theorem test_logical_w : ∀ row ∈ logicalRows,
    observe (exec (row.2.1 1 2 0 (.nopR false)) ((testState.setGr 1 0xC).setGr 2 0xA)) (fun t => t.readGr 0) =
      some (row.1.signExtend 32 &&& 0xF ||| if row.1.getLsbD 0 then 0xFFFFFFF0 else 0) := by decide

theorem test_log6_exclusive_or :
    observe (run 0x50104C50 0 ((testState.setGr 1 0xFF00FF00).setGr 2 0x0FF00FF0)) (fun t => t.readGr 0) = some 0xF0F0F0F0 := by
  decide

theorem test_logical_f_writes_no_register : ∀ row ∈ logicalRows,
    observe (exec (row.2.2 1 2 0 (.nopR false)) ((testState.setGr 1 0xC).setGr 2 0xA)) (fun t => (t.gr.toList, t.draws)) =
      some ([0, 0xC, 0xA, 0, 0, 0, 0, 0], 1) := by decide

theorem test_add_w :
    observe (run 0x50106C0A 0 { (testState.setGr 0 0xFFFFFFFF).setGr 1 0x1 with pswr := 0 })
      (fun t => (t.readGr 2, t.pswr)) = some (0x0, 0) ∧
    observe (run 0x50106C0A 0 { (testState.setGr 0 0x0).setGr 1 0x0 with pswr := 0x10000000 })
      (fun t => (t.readGr 2, t.pswr)) = some (0x0, 0x10000000) := by decide

theorem test_add_f :
    observe (run 0x5010AC0A 0 { (testState.setGr 0 0x7FFFFFFF).setGr 1 0x1 with pswr := 0 })
      (fun t => (t.readGr 2, nzvc t)) = some (0, true, false, true, false) ∧
    observe (run 0x5010AC0A 0 { (testState.setGr 0 0x80000000).setGr 1 0x80000000 with pswr := 0 })
      (fun t => (t.readGr 2, nzvc t)) = some (0, false, true, true, true) := by decide

theorem test_addc_w :
    observe (run 0x50106E0A 0 { (testState.setGr 0 0xFFFFFFFF).setGr 1 0xFFFFFFFF with pswr := 0x10000000 })
      (fun t => (t.readGr 2, t.pswr)) = some (0xFFFFFFFF, 0x10000000) ∧
    observe (run 0x50106E0A 0 { (testState.setGr 0 0x5).setGr 1 0x6 with pswr := 0 })
      (fun t => (t.readGr 2, t.pswr)) = some (0xB, 0) := by decide

theorem test_addc_f :
    observe (run 0x5010AE0A 0 { (testState.setGr 0 0xFFFFFFFF).setGr 1 0x0 with pswr := 0x10000000 })
      (fun t => (t.readGr 2, nzvc t)) = some (0, false, true, false, true) ∧
    observe (run 0x5010AE0A 0 { (testState.setGr 0 0x7FFFFFFF).setGr 1 0x0 with pswr := 0x10000000 })
      (fun t => (t.readGr 2, nzvc t)) = some (0, true, false, true, false) := by decide

theorem test_sub_w :
    observe (run 0x5010600A 0 { (testState.setGr 0 0x3).setGr 1 0x5 with pswr := 0 })
      (fun t => (t.readGr 2, t.pswr)) = some (0xFFFFFFFE, 0) := by decide

theorem test_sub_f :
    observe (run 0x5010A00A 0 { (testState.setGr 0 0x80000000).setGr 1 0x1 with pswr := 0 })
      (fun t => (t.readGr 2, nzvc t)) = some (0, false, false, true, true) ∧
    observe (run 0x5010A00A 0 { (testState.setGr 0 0x0).setGr 1 0x80000000 with pswr := 0 })
      (fun t => (t.readGr 2, nzvc t)) = some (0, true, false, true, false) ∧
    observe (run 0x5010A00A 0 { (testState.setGr 0 0x5).setGr 1 0x5 with pswr := 0 })
      (fun t => (t.readGr 2, nzvc t)) = some (0, false, true, false, true) := by decide

theorem test_subc_w :
    observe (run 0x5010620A 0 { (testState.setGr 0 0x5).setGr 1 0x3 with pswr := 0x10000000 })
      (fun t => (t.readGr 2, t.pswr)) = some (0x2, 0x10000000) ∧
    observe (run 0x5010620A 0 { (testState.setGr 0 0x5).setGr 1 0x3 with pswr := 0 })
      (fun t => (t.readGr 2, t.pswr)) = some (0x1, 0) := by decide

theorem test_subc_f :
    observe (run 0x5010A20A 0 { (testState.setGr 0 0x0).setGr 1 0xFFFFFFFF with pswr := 0 })
      (fun t => (t.readGr 2, nzvc t)) = some (0, false, true, false, false) ∧
    observe (run 0x5010A20A 0 { (testState.setGr 0 0x80000000).setGr 1 0x0 with pswr := 0 })
      (fun t => (t.readGr 2, nzvc t)) = some (0, false, false, true, true) := by decide

theorem test_inc_w :
    observe (run 0x5010640A 0 { (testState.setGr 0 0xFFFFFFFF).setGr 1 0x0 with pswr := 0 })
      (fun t => (t.readGr 2, t.pswr)) = some (0x0, 0) := by decide

theorem test_inc_f :
    observe (run 0x5010A40A 0 { (testState.setGr 0 0x7FFFFFFF).setGr 1 0x0 with pswr := 0 })
      (fun t => (t.readGr 2, nzvc t)) = some (0, true, false, true, false) ∧
    observe (run 0x5010A40A 0 { (testState.setGr 0 0xFFFFFFFF).setGr 1 0x0 with pswr := 0 })
      (fun t => (t.readGr 2, nzvc t)) = some (0, false, true, false, true) := by decide

theorem test_adc0_w :
    observe (run 0x5010660A 0 { (testState.setGr 0 0x7).setGr 1 0x0 with pswr := 0x10000000 })
      (fun t => (t.readGr 2, t.pswr)) = some (0x8, 0x10000000) ∧
    observe (run 0x5010660A 0 { (testState.setGr 0 0x7).setGr 1 0x0 with pswr := 0 })
      (fun t => (t.readGr 2, t.pswr)) = some (0x7, 0) := by decide

theorem test_adc0_f :
    observe (run 0x5010A60A 0 { (testState.setGr 0 0xFFFFFFFF).setGr 1 0x0 with pswr := 0x10000000 })
      (fun t => (t.readGr 2, nzvc t)) = some (0, false, true, false, true) ∧
    observe (run 0x5010A60A 0 { (testState.setGr 0 0x7).setGr 1 0x0 with pswr := 0 })
      (fun t => (t.readGr 2, nzvc t)) = some (0, false, false, false, false) := by decide

theorem test_dec_w :
    observe (run 0x5010680A 0 { (testState.setGr 0 0x0).setGr 1 0x0 with pswr := 0 })
      (fun t => (t.readGr 2, t.pswr)) = some (0xFFFFFFFF, 0) := by decide

theorem test_dec_f :
    observe (run 0x5010A80A 0 { (testState.setGr 0 0x80000000).setGr 1 0x0 with pswr := 0 })
      (fun t => (t.readGr 2, nzvc t)) = some (0, false, false, true, true) ∧
    observe (run 0x5010A80A 0 { (testState.setGr 0 0x1).setGr 1 0x0 with pswr := 0 })
      (fun t => (t.readGr 2, nzvc t)) = some (0, false, true, false, true) ∧
    observe (run 0x5010A80A 0 { (testState.setGr 0 0x0).setGr 1 0x0 with pswr := 0 })
      (fun t => (t.readGr 2, nzvc t)) = some (0, true, false, false, false) := by decide

theorem test_decc_w :
    observe (run 0x50106A0A 0 { (testState.setGr 0 0x1).setGr 1 0x0 with pswr := 0x10000000 })
      (fun t => (t.readGr 2, t.pswr)) = some (0x1, 0x10000000) ∧
    observe (run 0x50106A0A 0 { (testState.setGr 0 0x0).setGr 1 0x0 with pswr := 0 })
      (fun t => (t.readGr 2, t.pswr)) = some (0xFFFFFFFF, 0) := by decide

theorem test_decc_f :
    observe (run 0x5010AA0A 0 { (testState.setGr 0 0x0).setGr 1 0x0 with pswr := 0x10000000 })
      (fun t => (t.readGr 2, nzvc t)) = some (0, false, true, false, true) ∧
    observe (run 0x5010AA0A 0 { (testState.setGr 0 0x1).setGr 1 0x0 with pswr := 0x10000000 })
      (fun t => (t.readGr 2, nzvc t)) = some (0, false, false, false, true) := by decide

theorem test_neg_w :
    observe (run 0x5010780A 0 { (testState.setGr 0 0x1).setGr 1 0x0 with pswr := 0 })
      (fun t => (t.readGr 2, t.pswr)) = some (0xFFFFFFFF, 0) := by decide

theorem test_neg_f :
    observe (run 0x5010B80A 0 { (testState.setGr 0 0x80000000).setGr 1 0x0 with pswr := 0 })
      (fun t => (t.readGr 2, nzvc t)) = some (0, true, false, true, false) ∧
    observe (run 0x5010B80A 0 { (testState.setGr 0 0x0).setGr 1 0x0 with pswr := 0 })
      (fun t => (t.readGr 2, nzvc t)) = some (0, false, true, false, true) ∧
    observe (run 0x5010B80A 0 { (testState.setGr 0 0xFFFFFFFF).setGr 1 0x0 with pswr := 0 })
      (fun t => (t.readGr 2, nzvc t)) = some (0, false, false, false, false) := by decide

theorem test_mulf_w_completes : ∃ t, run 0x50107008 0 testState = .next t := ⟨_, rfl⟩

theorem test_mulf_f_writes_no_register :
    observe (run 0x5010B008 0 ((parState fun par => { par with overflowIrq := .never }).setGr 1 3)) (fun t => t.gr.toList) = some [0, 3, 0, 0, 0, 0, 0, 0] := by decide

theorem test_muls_w_completes : ∃ t, run 0x50107208 0 testState = .next t := ⟨_, rfl⟩

theorem test_muls_f_writes_no_register :
    observe (run 0x5010B208 0 ((parState fun par => { par with overflowIrq := .never }).setGr 1 3)) (fun t => t.gr.toList) = some [0, 3, 0, 0, 0, 0, 0, 0] := by decide

theorem test_overflow_requests_interrupt_2 :
    observe (run 0x5010AC0A 0 ((testState.setGr 0 0x7FFFFFFF).setGr 1 1)) (fun t => t.requests) = some 0b10 ∧
    observe (run 0x50106C0A 0 ((testState.setGr 0 0x7FFFFFFF).setGr 1 1)) (fun t => t.requests) = some 0 := by decide

theorem test_w11_both :
    observe (run 0x5010EC0A 0 (((testState.setGr 0 0xFFFFFFFF).setGr 1 1).setGr 2 9)) (fun t => (t.readGr 2, nzvc t)) =
      some (0, false, true, false, true) := by decide

theorem test_w11_refuse : run 0x5010EC0A 0 (parState fun par => { par with w11Mode := .refuse }) = .refused .undefinedW := by rfl

theorem test_reservedAop101x : run 0x50107400 0 testState = .fault .illegalInstruction := by rfl

theorem test_reservedAop11x1 : run 0x5010BE00 0 testState = .fault .illegalInstruction := by rfl

theorem test_reservedAop111x : run 0x50107C00 0 testState = .fault .illegalInstruction := by rfl

theorem test_parallel_bit_refused : run 0xD0100000 0 testState = .refused .parallelBit := by rfl

/-! ### Control and sequencing (section 7) -/

/-- For each flag state of the section's table, the conditions that are true, by code. -/
theorem test_conditions :
    let holds (n z v c : Bool) : List Nat :=
      (List.range 16).filter fun k => condHolds (decodeCond (BitVec.ofNat 4 k)) { n := n, z := z, v := v, c := c }
    holds false false false false = [0, 1, 2, 3, 4, 5, 6, 7] ∧ holds false true false true = [1, 3, 5, 7, 8, 10, 12, 14] ∧
      holds true false false false = [0, 1, 6, 7, 10, 11, 12, 13] ∧
      holds true false true true = [4, 5, 6, 7, 8, 9, 10, 11] ∧ holds false false true false = [0, 2, 3, 6, 7, 9, 12, 13] := by
  decide

theorem test_jmpR_rest_of_word :
    observe (stepOn 0x5010000000270000 ((delayState true 0).setAr 0 0x400)) place = some ⟨0x100, true, some ⟨0x400, 0⟩⟩ := by decide

theorem test_jmpR_two_words :
    observe (stepOn 0x5010000000270000 ((delayState false 2).setAr 0 0x400)) place = some ⟨0x102, false, some ⟨0x400, 1⟩⟩ := by decide

theorem test_jmpI_negative_constant :
    observe (stepOn 0xFFFFFFFE44A70000 (testState.setAr 2 0x400)) place = some ⟨0x3FE, false, none⟩ := by decide

theorem test_jmpI_odd_target :
    observe (stepOn 0x0000004148270000 testState) place = some ⟨0x41, false, none⟩ := by decide

theorem test_callR_pushes_down :
    observe (stepOn 0x501000000B270000 ((({ downState with pc := 0x10, pswr := 5 }).setGr 4 0x800).setAr 7 0x2000))
      (fun t => (t.word 0x1FFE, t.word 0x1FFF, t.readAr 7, place t)) = some (0x12, 5, 0x1FFE, ⟨0x800, false, none⟩) := by decide

theorem test_callR_pushes_up :
    observe (stepOn 0x501000000B270000 ((({ testState with pc := 0x10, pswr := 5 }).setGr 4 0x800).setAr 7 0x2000))
      (fun t => (t.word 0x2000, t.word 0x2001, t.readAr 7, place t)) = some (0x12, 5, 0x2002, ⟨0x800, false, none⟩) := by decide

theorem test_callI_one_delay_word :
    observe (stepOn 0x000001004A270000 (({ delayState false 1 with pc := 0x10, pswr := 5 }).setAr 7 0x2000))
      (fun t => (t.word 0x2000, t.word 0x2001, t.readAr 7, place t)) = some (0x14, 5, 0x2002, ⟨0x12, false, some ⟨0x100, 0⟩⟩) := by decide

theorem test_callI_not_taken :
    observe (stepOn 0x000001004A280000 (({ testState with pc := 0x10 }).setAr 7 0x2000)) (fun t => (t.readAr 7, place t, t.stored)) =
      some (0x2000, ⟨0x12, false, none⟩, []) := by decide

theorem test_ret_leaves_pswr :
    observe (stepOn 0x5010000003F70000 (({ testState with mem := [(0x2000, 0x12), (0x2001, 9)], pswr := 5 }).setAr 7 0x2002))
      (fun t => (t.readAr 7, t.pswr, place t)) = some (0x2000, 5, ⟨0x12, false, none⟩) := by decide

theorem test_ret_not_taken :
    observe (stepOn 0x5010000003FE0000 (testState.setAr 7 0x2002)) (fun t => (t.readAr 7, place t)) = some (0x2002, ⟨0x100, true, none⟩) := by decide

theorem test_iret_restores_pswr :
    observe (stepOn 0x501000000BF70000 (({ testState with mem := [(0x2000, 0x12), (0x2001, 9)], pswr := 5 }).setAr 7 0x2002))
      (fun t => (t.readAr 7, t.pswr, place t)) = some (0x2000, 9, ⟨0x12, false, none⟩) := by decide

theorem test_transfer_in_delay_slot :
    run 0x00270000 0 { testState with pending := some { target := 0x40, words := 1 } } = .refused .transferInDelaySlot := by rfl

theorem test_reserved000 : run 0x00000000 0 testState = .fault .illegalInstruction := by rfl

theorem test_udi : run 0x10000000 0 testState = .fault .illegalInstruction := by rfl

theorem test_pc_wraps :
    observe (stepOn 0x0000000040100000 { testState with pc := 0xFFFFFFFE }) place = some ⟨0, false, none⟩ := by decide

theorem test_long_in_high_half :
    step ({ testState.placeFetchWord 0x4827000050100000 with slot := true }) = .refused .longInHighHalf := by rfl

/-! ### Interrupts (section 9) -/

theorem test_interrupt_entry :
    observe (step (({ irqState with pc := 0x120, pswr := 5, requests := 0b1000 }).setAr 7 0x2000))
      (fun t => (t.word 0x2000, t.word 0x2001, t.readAr 7, t.requests, t.pswr, place t)) =
      some (0x120, 5, 0x2002, 0, 5, ⟨0x18, false, none⟩) := by decide

theorem test_interrupt_priority :
    observe (step (({ irqState with requests := 0b1000010000 }).setAr 7 0x2000)) (fun t => (t.pc, t.requests)) =
      some (0x20, 0b1000000000) := by decide

theorem test_interrupt_waits_for_the_word :
    observe (step { irqState.placeFetchWord 0x5010000050100000 with slot := true, requests := 0b1000 })
      (fun t => (t.pc, t.requests)) = some (0x102, 0b1000) := by decide

theorem test_interrupt_masked :
    observe (stepOn 0x5010000050100000 { testState with requests := 0b1000 }) (fun t => (t.pc, t.requests)) = some (0x100, 0b1000) := by decide

theorem test_starting_addresses :
    irqOrder.map Irq.vector = [0x00, 0x08, 0x10, 0x18, 0x20, 0x28, 0x30, 0x38, 0x40, 0x48] := by decide

theorem test_first_step_after_reset : (∃ t, step (State.reset.withFetchWord 32 0x3C116C8A) = .next t) ∧
    (∃ t, step (State.reset.withFetchWord 32 0x00270000) = .next t) ∧ (∃ t, step (State.reset.withFetchWord 16 0x114A) = .next t) ∧
    decodeTableWord 16 0x114A = some (.lsh 5 1 2 (.nopR false)) ∧
    decodeTableWord 64 0x0000010062120000 = some (.stI false .absolute 0 0b010010 0x100) :=
  ⟨⟨_, rfl⟩, ⟨_, rfl⟩, ⟨_, rfl⟩, rfl, rfl⟩

/-! ### Witnesses: for each obligation with hypotheses, a state and operands that meet them together -/

/-- A state with a transfer pending. -/
def pendingState (words : Nat) : State := { testState with pending := some { target := 0x40, words := words } }

/-- A state whose P_MODE is `ignore`. -/
def ignoreState : State := parState fun par => { par with pMode := .ignore }

/-- A state with the DMA agent. -/
def agentState : State := parState fun par => { par with dmaModel := .agent }

/-- A counter that always runs up by 1 to 5 and then starts again from 0. -/
def testCounter : TimerCounter :=
  { runs := [(0, 0)], step := 1, expiry := 5, periodical := [(0, 0)], reload := 0, singleStops := false }

/-- A counter that never runs. -/
def stoppedCounter : TimerCounter := { testCounter with runs := [] }

/-- A state whose timers are counters, T0 about to expire. -/
def counterState : State := { parState (fun par => { par with timerModel := .counters testCounter stoppedCounter }) with t0 := 4, t1 := 7 }

theorem dmaAllowed_false (s : State) : DmaAllowed false s := fun h => nomatch h

theorem dmaAllowed_agent (touches : Bool) : DmaAllowed touches agentState := fun _ => rfl

theorem pAllowed_false (s : State) : PAllowed false s := fun h => nomatch h

theorem pAllowed_ignore : PAllowed true ignoreState := fun _ => rfl

/-- A load into GR1 writes GR1, so an OP that writes GR1 collides with it; one that writes GR2 does not. -/
theorem partsCollide_load : PartsCollide (.ldR false .ar 0 0b010001) testState [1] false :=
  .inl ⟨1, by decide, ⟨_, rfl, by decide⟩⟩

theorem not_partsCollide_load : ¬ PartsCollide (.ldR false .ar 0 0b010001) testState [2] false := by
  rintro (⟨i, hi, plan, hp, hm⟩ | ⟨h, -⟩)
  · cases List.mem_singleton.1 hi; cases hp; exact absurd hm (by decide)
  · cases h

theorem partsCollide_flags : PartsCollide (.ldR false .ar 0 0b011111) testState [] true :=
  .inr ⟨rfl, ⟨_, rfl, by decide⟩⟩

theorem witness_decode_of_encode :
    (Instr.ldc false 0b000111 0xFFFFFFFF).wellFormed = true ∧
      (∀ c, constantOf (.ldc false 0b000111 0xFFFFFFFF) = some c → (0xFFFFFFFF : Word) = c) ∧
      (Instr.addW 0 1 2 (.nopR true)).wellFormed = true ∧ constantOf (.addW 0 1 2 (.nopR true)) = none :=
  ⟨rfl, fun _ h => Option.some.inj h, rfl, rfl⟩

theorem witness_reserved_register_codes : PAllowed false testState ∧ PAllowed true ignoreState ∧
    exec (.stR false .ar 0 0b110000) testState = .fault .illegalInstruction ∧
    exec (.ldR false .ar 0 0b011110) testState = .fault .illegalInstruction ∧
    exec (.ldc false 0b111100 0) testState = .fault .illegalInstruction ∧
    (∃ t, exec (.stR false .ar 0 0b101111) testState = .next t) ∧ ∃ t, exec (.ldR false .ar 0 0b111101) testState = .next t :=
  ⟨pAllowed_false _, pAllowed_ignore, rfl, rfl, rfl, ⟨_, rfl⟩, ⟨_, rfl⟩⟩

theorem witness_reserved_aop : PAllowed ((0x5010FE00 : Word).getLsbD 31) testState ∧
    (0x5010FE00 : Word).extractLsb' 14 2 ≠ 0b00#2 ∧ (0x5010FE00 : Word).getLsbD 13 = true ∧
    (0x5010FE00 : Word).extractLsb' 9 4 = 0b1111#4 ∧ (0x50107400 : Word).extractLsb' 14 2 ≠ 0b00#2 ∧
    (0x50107400 : Word).getLsbD 13 = true ∧ (0x50107400 : Word).extractLsb' 9 4 = 0b1010#4 :=
  ⟨pAllowed_false _, by decide, by decide, by decide, by decide, by decide, by decide⟩

theorem witness_reserved_encodings : (Instr.reserved000 false 0x010).wellFormed = true ∧
    (Instr.reserved000 false 0x010).isReserved = true ∧ (Instr.addW 0 1 2 (.udi false 0)).wellFormed = true ∧
    (Instr.addW 0 1 2 (.udi false 0)).isReserved = true ∧ PAllowed (parallelOf (.addW 0 1 2 (.udi false 0))) testState ∧
    (Instr.addW 0 1 2 (.ldR false .ar 0 0b001101)).wellFormed = true ∧
    (Instr.addW 0 1 2 (.ldR false .ar 0 0b001101)).isReserved = true :=
  ⟨by decide, rfl, by decide, rfl, pAllowed_false _, by decide, by decide⟩

theorem witness_step_keeps_the_invariant : (testState.placeFetchWord 0x5010000050100000).Inv ∧
    ∃ t, step (testState.placeFetchWord 0x5010000050100000) = .next t :=
  ⟨⟨by decide, by decide, fun _ h => nomatch h⟩, ⟨_, rfl⟩⟩

theorem witness_requests : (∃ t, exec (.addF 0 1 2 (.nopR false)) { testState with requests := 0b10 } = .next t) ∧
    State.req { testState with requests := 0b10 } .overflow = true ∧ Irq.trace ≠ .overflow ∧
    Instr.arithmetical (.log0F 0 1 2 (.nopR false)) = false ∧
    ∃ t, exec (.log0F 0 1 2 (.nopR false)) { testState with requests := 0b10 } = .next t :=
  ⟨⟨_, rfl⟩, by decide, by decide, rfl, ⟨_, rfl⟩⟩

theorem witness_only_stores : (∃ t, exec (.addW 0 1 2 (.ldR false .ar 0 0b010001)) testState = .next t) ∧
    Instr.storesMemory (.addW 0 1 2 (.ldR false .ar 0 0b010001)) = false :=
  ⟨⟨_, rfl⟩, rfl⟩

theorem witness_pswr_frame : (∃ t, exec (.subF 0 1 2 (.nopR false)) testState = .next t) ∧
    (∃ t, exec (.subW 0 1 2 (.nopR false)) testState = .next t) ∧ ¬ WritesReg (.nopR false) testState .pswr ∧
    Instr.storesFlags testState.par.shiftFlags (.subW 0 1 2 (.nopR false)) = false ∧
    (27 : Fin 32) ∉ [testLayout.n, testLayout.z, testLayout.v, testLayout.c] := by
  refine ⟨⟨_, rfl⟩, ⟨_, rfl⟩, ?_, rfl, by decide⟩
  rintro ⟨plan, hp, hm⟩
  cases hp
  exact absurd hm (by decide)

theorem witness_writes : Accessible testState 0xFFFFFFFF false ∧ Accessible testState 0xFFFFFFFF true ∧
    (0 : Word) ≠ 0xFFFFFFFF &&& 0xFFFFFFFE#32 ∧ (0 : Word) ≠ 0xFFFFFFFF ||| 1#32 :=
  ⟨rfl, rfl, by decide, by decide⟩

theorem witness_mixed_widths : (0xFFFFFFFE : Word).getLsbD 0 = false ∧ Accessible testState 0xFFFFFFFE true :=
  ⟨by decide, rfl⟩

/-- A device at 0x10 to 0x13 and memory at 0x14 to 0x17: an access in each, at the edge of both, and just outside. -/
theorem witness_memory_map :
    let s := mapState [{ base := 0x10, size := 4, kind := .device }, { base := 0x14, size := 4, kind := .plain }]
    PAllowed false s ∧ (∃ b ∈ storedWords 0x18 true, Unbacked s b) ∧ BackedBy .device s 0x13 ∧
      (∃ b ∈ storedWords 0x12 true, BackedBy .device s b) ∧ (∀ b ∈ storedWords 0x16 true, BackedBy .plain s b) ∧
      BackedBy .plain s 0x14 ∧ DmaAllowed (Dst.touchesDma (.grAr 1)) s ∧ DmaAllowed (Src.touchesDma .pswrPc) s ∧
      (modeWrite 3 (amUpdate .ar 0 0 2) = [] ∨ .ar 3 ∉ Dst.targets .pswrPc) ∧ dstOf 0b101111 = some .pswrPc ∧
      srcOf 0b101111 = some .pswrPc ∧ condHolds .al s.flags = true ∧ s.pending = none :=
  ⟨pAllowed_false _, ⟨_, .head _, by unfold Unbacked; decide⟩, ⟨_, rfl, rfl⟩, ⟨_, .head _, ⟨_, rfl, rfl⟩⟩,
    fun b hb => by
      simp only [storedWords, evenWord, oddWord, if_true, List.mem_cons, List.not_mem_nil, or_false] at hb
      rcases hb with rfl | rfl <;> exact ⟨_, rfl, rfl⟩,
    ⟨_, rfl, rfl⟩, dmaAllowed_false _, dmaAllowed_false _, .inl rfl, rfl, rfl, rfl, rfl⟩

theorem witness_loads_into_general_registers :
    let s := (testState.setAr 3 0xFFFFFFFF).setGr 3 1
    PAllowed false s ∧ Accessible s (s.readGr 3) false ∧ Accessible s (s.readAr 3 + s.readGr 3) false ∧
      Accessible s (s.readAr 3) false ∧ Accessible s (s.readAr 3 - 1#32) false :=
  ⟨pAllowed_false _, rfl, rfl, rfl, rfl⟩

theorem witness_constant_modes :
    let s := testState.setAr 7 0xFFFFFFFF
    PAllowed false s ∧ Accessible s 0xFFFFFFFF false ∧ Accessible s (s.readAr 7 + 1#32) false :=
  ⟨pAllowed_false _, rfl, rfl⟩

theorem witness_loads_into_pairs :
    let s := testState.setAr 0 0
    PAllowed false s ∧ Accessible s (s.readAr 0) true ∧ Accessible s (s.readAr 0 - 2#32) true ∧ (0 : RegIx) ≠ 7 ∧
      s.par.pairOrder = .firstHigh :=
  ⟨pAllowed_false _, rfl, rfl, by decide, rfl⟩

theorem witness_loads_reach_every_destination :
    PAllowed false testState ∧ dstOf 0b101111 = some .pswrPc ∧ testState.pending = none ∧ Accessible testState 0 true ∧
      modeWrite 7 (amUpdate .ar 0 0 2) = [] ∧ Target.ar 7 ∉ Dst.targets .pswrPc ∧ dstOf 0b000111 = some (.ar 7) ∧
      (0b000111 : RegCode) = codeAr 7 ∧ dstOf 0b100111 = some (.grAr 7) ∧ (0b100111 : RegCode) = codePair 7 ∧
      AM.postInc ≠ .gr ∧ AM.postInc ≠ .ar ∧ AMC.loadK ≠ .absolute ∧ DmaAllowed (Dst.touchesDma .pswrPc) testState ∧
      dstOf 0b101101 = some (.dor 0) ∧ Dst.touchesDma (.dor 0) = true ∧ testState.par.dmaModel = .none ∧
      DmaAllowed (Dst.touchesDma (.dor 0)) agentState ∧ PAllowed false agentState ∧ Accessible agentState 0 true :=
  ⟨pAllowed_false _, rfl, rfl, rfl, rfl, by decide, rfl, rfl, rfl, rfl, by decide, by decide, by decide, dmaAllowed_false _,
    rfl, rfl, rfl, dmaAllowed_agent _, pAllowed_false _, rfl⟩

theorem witness_stores_from_every_source :
    PAllowed false testState ∧ srcOf 0b101111 = some .pswrPc ∧ Src.wide .pswrPc = true ∧ Accessible testState 0xFFFFFFFF true ∧
      srcOf 0b011110 = some .intr ∧ Src.wide .intr = false ∧ Accessible testState 0xFFFFFFFF false ∧
      (0 : Word) ∉ storedWords 0xFFFFFFFF true ∧ (6 : RegIx) ≠ 7 ∧ DmaAllowed (Src.touchesDma .pswrPc) testState ∧
      srcOf 0b101101 = some (.dir 0) ∧ Src.touchesDma (.dir 0) = true ∧ testState.par.dmaModel = .none ∧
      DmaAllowed (Src.touchesDma (.dir 0)) agentState ∧ PAllowed false agentState ∧ Accessible agentState 0 true :=
  ⟨pAllowed_false _, rfl, rfl, rfl, rfl, rfl, rfl, by decide, by decide, dmaAllowed_false _, rfl, rfl, rfl, dmaAllowed_agent _,
    pAllowed_false _, rfl⟩

theorem witness_stored_values : PAllowed false agentState ∧ Accessible agentState 0 false ∧ Accessible agentState 0xFFFFFFFF true ∧
    agentState.par.dmaModel = .agent ∧ agentState.par.timerModel = .environment ∧ PAllowed false counterState ∧
    Accessible counterState 0 true ∧ counterState.par.timerModel = .counters testCounter stoppedCounter :=
  ⟨pAllowed_false _, rfl, rfl, rfl, rfl, pAllowed_false _, rfl, rfl⟩

/-- The pair PSWR,PC under PAIR_ORDER = first_high: PC, with its offset, is the even word and goes to AR. -/
theorem test_pswr_pc_as_source :
    observe (exec (.stI false .absolute 0 0b101111 0x201) { testState with pswr := 5 }) (fun t => (t.word 0x200, t.word 0x201)) =
      some (0x102, 5) ∧
    observe (exec (.mov false (codePair 1) 0b101111) { testState with pswr := 5 }) (fun t => (t.readGr 1, t.readAr 1)) =
      some (5, 0x102) := by decide

theorem witness_moves : PAllowed false testState ∧ dstOf 0b101111 = some .pswrPc ∧ srcOf 0b100111 = some (.grAr 7) ∧
    Src.wide (.grAr 7) = Dst.wide .pswrPc ∧ testState.pending = none ∧ dstOf 0b010111 = some (.gr 7) ∧
    Src.wide (.grAr 7) ≠ Dst.wide (.gr 7) ∧ DmaAllowed (Src.touchesDma (.grAr 7) || Dst.touchesDma .pswrPc) testState ∧
    dstOf 0b101101 = some (.dor 0) ∧ srcOf 0b101101 = some (.dir 0) ∧ Src.touchesDma (.dir 0) = true ∧
    Dst.touchesDma (.dor 0) = true ∧ testState.par.dmaModel = .none ∧
    DmaAllowed (Src.touchesDma (.dir 0) || Dst.touchesDma (.dor 0)) agentState ∧ PAllowed false agentState :=
  ⟨pAllowed_false _, rfl, rfl, rfl, rfl, rfl, by decide, dmaAllowed_false _, rfl, rfl, rfl, rfl, rfl, dmaAllowed_agent _,
    pAllowed_false _⟩

theorem witness_moves_into_general_registers : PAllowed false testState ∧
    (codeAr 7, testState.readAr 7) ∈ [(codeAr 7, testState.readAr 7), (codeGr 7, testState.readGr 7)] ∧
    (∃ t, exec (.mov false (codeGr 7) 0b001100) testState = .next t) ∧ testState.par.timerModel = .environment ∧
    PAllowed false counterState ∧ counterState.par.timerModel = .counters testCounter stoppedCounter :=
  ⟨pAllowed_false _, by decide, ⟨_, rfl⟩, rfl, pAllowed_false _, rfl⟩

theorem witness_moves_from_general_registers : PAllowed false testState ∧ testState.pending = none ∧
    testState.par.dmaModel = .none ∧ PAllowed false agentState ∧ agentState.par.dmaModel = .agent ∧
    ((0b011011#6, agentState.setChannel 1 { agentState.channel 1 with icc := agentState.readGr 7 }) : RegCode × State) ∈
      [(0b011011#6, agentState.setChannel 1 { agentState.channel 1 with icc := agentState.readGr 7 })] ∧
    exec (.mov false 0b011011 (codeGr 7)) agentState =
      .next (agentState.setChannel 1 { agentState.channel 1 with icc := 0 }) :=
  ⟨pAllowed_false _, rfl, rfl, pAllowed_false _, rfl, List.mem_singleton_self _, rfl⟩

theorem witness_moves_of_pairs : PAllowed true ignoreState ∧ ignoreState.pending = none ∧ ignoreState.par.dmaModel = .none ∧
    PAllowed false agentState ∧ agentState.par.dmaModel = .agent ∧ ignoreState.par.timerModel = .environment ∧
    PAllowed false counterState ∧ counterState.par.timerModel = .counters testCounter stoppedCounter :=
  ⟨pAllowed_ignore, rfl, rfl, pAllowed_false _, rfl, rfl, pAllowed_false _, rfl⟩

theorem witness_intr : PAllowed false testState ∧ (16 : Fin 32) ∉ testState.par.intrLayout.pos.toList ∧
    testState.par.intrLayout.dmaMask.getLsbD 16 = true :=
  ⟨pAllowed_false _, by decide, by decide⟩

theorem witness_constants : PAllowed false testState ∧ dstOf 0b001111 = some .pc ∧ Dst.wide .pc = false ∧
    testState.pending = none ∧ dstOf 0b101111 = some .pswrPc ∧ Dst.wide .pswrPc = true ∧
    DmaAllowed (Dst.touchesDma .pc) testState ∧ dstOf 0b001000 = some (.dma .oca 0) ∧ Dst.touchesDma (.dma .oca 0) = true ∧
    testState.par.dmaModel = .none ∧ DmaAllowed (Dst.touchesDma (.dma .oca 0)) agentState ∧ PAllowed false agentState :=
  ⟨pAllowed_false _, rfl, rfl, rfl, rfl, rfl, dmaAllowed_false _, rfl, rfl, rfl, dmaAllowed_agent _, pAllowed_false _⟩

theorem witness_arm : PAllowed false testState ∧ (7 : RegIx).val = 4 * ((7 : RegIx).val / 4) + (3 : Fin 4).val ∧
    (0 : RegIx).val = 4 * ((3 : RegIx).val / 4) + (0 : Fin 4).val :=
  ⟨pAllowed_false _, rfl, rfl⟩

theorem witness_nops : PAllowed false testState ∧ (Instr.callI false .k 0 .al 0x100).isTransfer = true :=
  ⟨pAllowed_false _, rfl⟩

theorem witness_jumps : PAllowed false testState ∧ condHolds .al testState.flags = true ∧
    condHolds .eq (State.flags { testState with pswr := 0x40000000 }) = true ∧ testState.pending = none :=
  ⟨pAllowed_false _, rfl, by decide, rfl⟩

theorem witness_false_condition : PAllowed false testState ∧ condHolds .nv testState.flags = false ∧
    condHolds .eq testState.flags = false ∧ Instr.ret false .eq ∈ [Instr.ret false .eq, .iret false .eq] ∧
    Instr.transferOf (.log3F 0 1 2 (.ret false .eq)) = .ret false .eq :=
  ⟨pAllowed_false _, rfl, by decide, by decide, rfl⟩

theorem witness_calls : PAllowed false testState ∧ condHolds .al testState.flags = true ∧ testState.pending = none ∧
    Accessible testState (if testState.par.stackDir = .up then testState.readAr 7 else testState.readAr 7 - 2#32) true ∧
    PAllowed false downState ∧ downState.pending = none ∧
    Accessible downState (if downState.par.stackDir = .up then downState.readAr 7 else downState.readAr 7 - 2#32) true ∧
    (testState.par.callReturnPc = .afterDelaySlots ∧
      ∀ k, testState.par.callReturnPc = .offset k → testState.pc + 2#32 = testState.pc + k) ∧
    (parState fun par => { par with callReturnPc := .offset 2 }).par.callReturnPc = .offset 2 :=
  ⟨pAllowed_false _, rfl, rfl, rfl, pAllowed_false _, rfl, rfl, ⟨rfl, nofun⟩, rfl⟩

theorem witness_returns : PAllowed false testState ∧ condHolds .al testState.flags = true ∧ testState.pending = none ∧
    Accessible testState (if testState.par.stackDir = .up then testState.readAr 7 - 2#32 else testState.readAr 7) true ∧
    testState.par.pairOrder = .firstHigh ∧ (parState fun par => { par with pairOrder := .firstLow }).par.pairOrder = .firstLow ∧
    Accessible (parState fun par => { par with pairOrder := .firstLow, stackDir := .down }) 0 true :=
  ⟨pAllowed_false _, rfl, rfl, rfl, rfl, rfl, rfl⟩

theorem witness_transfer_in_delay_slot : PAllowed false (pendingState 0) ∧ (pendingState 0).pending ≠ none ∧
    condHolds .al (pendingState 0).flags = true ∧
    exec (.ldI false .absolute 0 0b101111 0) (pendingState 0) = .refused .transferInDelaySlot ∧
    srcOf 0b101100 = some .timers ∧ Src.wide .timers = true ∧ DmaAllowed (Src.touchesDma .timers) (pendingState 0) ∧
    srcOf 0b011110 = some .intr ∧ Src.wide .intr = false :=
  ⟨pAllowed_false _, by decide, rfl, rfl, rfl, rfl, dmaAllowed_false _, rfl, rfl⟩

theorem witness_delayed_transfer : (pendingState 0).pending = some { target := 0x40, words := 0 } ∧
    (pendingState 2).pending = some { target := 0x40, words := 2 } :=
  ⟨rfl, rfl⟩

theorem witness_call_then_return : PAllowed false testState ∧ testState.pending = none ∧
    ∃ t, exec (.callI false .k 0 .al 0x100) testState = .next t :=
  ⟨pAllowed_false _, rfl, ⟨_, rfl⟩⟩

/-- A state where the count field 63 shifts right by 32. -/
def shiftState : State := parState fun par => { par with shiftTable := Vector.replicate 64 (.right, 32) }

theorem witness_shifts : testState.par.shiftFlags = .none ∧ ((0#6 : BitVec 6) = 0#6 → (0 : Fin 33) = 0) ∧
    shiftState.par.shiftTable[(63#6).toNat] = (.right, 32) ∧ testState.par.shiftTable[(5#6).toNat] = (.left, 5) ∧
    ¬ ((5#6 : BitVec 6) = 0#6 ∧ (1 : RegIx) = 1) ∧ (Instr.ldR false .ar 0 0b010001).isTransfer = true ∧
    (∃ u, exec (.ldR false .ar 0 0b010001) testState = .next u) ∧
    ¬ PartsCollide (.ldR false .ar 0 0b010001) testState [2] false ∧
    PartsCollide (.ldR false .ar 0 0b010001) testState [1] false :=
  ⟨rfl, fun _ => rfl, by decide, by decide, by decide, rfl, ⟨_, rfl⟩, not_partsCollide_load, partsCollide_load⟩

theorem witness_shifts_that_store_flags : (parState fun par => { par with shiftFlags := .store }).par.shiftFlags = .store ∧
    ¬ ((0#6 : BitVec 6) = 0#6 ∧ (1 : RegIx) = 2) :=
  ⟨rfl, by decide⟩

theorem witness_shift_through_carry : testState.par.shiftFlags = .none ∧
    (parState fun par => { par with shiftFlags := .store }).par.shiftFlags = .store ∧ (63#6 : BitVec 6) ≠ 0#6 ∧
    PAllowed false testState :=
  ⟨rfl, rfl, by decide, pAllowed_false _⟩

theorem witness_op_rows : logicalRows.length = 16 ∧ adderRows.length = 9 ∧ multiplyRows.length = 2 ∧ PAllowed false testState ∧
    (Instr.ldR false .ar 0 0b011111).isTransfer = true ∧ (∃ u, exec (.ldR false .ar 0 0b011111) testState = .next u) ∧
    PartsCollide (.ldR false .ar 0 0b011111) testState [] true :=
  ⟨rfl, rfl, rfl, pAllowed_false _, rfl, ⟨_, rfl⟩, partsCollide_flags⟩

theorem witness_w11 : testState.par.w11Mode = .both ∧ (parState fun par => { par with w11Mode := .refuse }).par.w11Mode = .refuse ∧
    isReservedAop 0b1000 = false ∧ isReservedAop 0b1100 = false ∧ PAllowed false (parState fun par => { par with w11Mode := .refuse }) ∧
    ∃ t, exec (.w11 true 0b1000 1 2 0 (.nopR false)) testState = .next t :=
  ⟨rfl, rfl, rfl, rfl, pAllowed_false _, ⟨_, rfl⟩⟩

theorem witness_two_parts : (Instr.addW 0 1 2 (.ldR false .ar 0 0b010001)).wellFormed = true ∧
    (∃ a, exec (Instr.transferOf (.addW 0 1 2 (.ldR false .ar 0 0b010001))) testState = .next a) ∧
    (∃ b, exec (Instr.opAlone (.addW 0 1 2 (.ldR false .ar 0 0b010001))) testState = .next b) ∧
    ¬ PartsCollide (.ldR false .ar 0 0b010001) testState (opTargets (.addW 0 1 2 (.nopR false)) testState) false ∧
    PartsCollide (.ldR false .ar 0 0b010001) testState (opTargets (.addW 0 1 1 (.nopR false)) testState) false :=
  ⟨by decide, ⟨_, rfl⟩, ⟨_, rfl⟩, not_partsCollide_load, partsCollide_load⟩

theorem witness_step_runs_the_decoded_instruction :
    let s := testState.placeFetchWord 0x5010000050100000
    irqDecision s.agentsAct = (none, s) ∧ Accessible s s.pc true ∧ s.codeStored = false ∧
      decodeFetch (s.word (s.pc ||| 1#32) ++ s.word (s.pc &&& 0xFFFFFFFE#32)) s.slot = some (.nopR false) ∧
      decodeTableWord 32 0x50100000 = some (.nopR false) :=
  ⟨rfl, rfl, rfl, rfl, rfl⟩

theorem witness_moving_on : Irq.timer0 ≠ .trace ∧ testState.slot = false ∧ testState.pending = none ∧
    (pendingState 2).pending ≠ none ∧ (pendingState 2).par.delayRestOfWord = false ∧
    (delayState true 0).par.delayRestOfWord = true ∧ (pendingState 0).pending = some { target := 0x40, words := 0 } :=
  ⟨by decide, rfl, rfl, by decide, rfl, rfl, rfl⟩

/-- An IRQ_ENTRY_PSWR that sets bit 31, keeps bit 0 and clears the others. -/
def maskAll : Vector PswrPredicate 32 := ((Vector.replicate 32 []).set 31 [(0, 0)]).set 0 [(1, 1)]

theorem test_irq_entry_pswr_function :
    observe (enterInterrupt .external
        { parState (fun par => { par with irqEntryPswr := .function (Vector.replicate 10 maskAll) }) with pswr := 7 })
      (fun t => (t.pswr, t.word 1)) = some (0x80000001, 7) := by decide

theorem witness_interrupt_entry :
    let s : State := { irqState with requests := 0b1000000001 }
    (∃ s1, irqDecision s.agentsAct = (some .timer0, s1)) ∧ Accessible s (s.readAr 7) true ∧
      (Irq.trace, 0x48#32) ∈ [(Irq.timer0, 0x00#32), (.trace, 0x48#32)] ∧ s.par.irqEntryPswr = .identity ∧
      (parState fun par => { par with irqEntryPswr := .function (Vector.replicate 10 maskAll) }).par.irqEntryPswr =
        .function (Vector.replicate 10 maskAll) :=
  ⟨⟨_, rfl⟩, rfl, by decide, rfl, rfl⟩

theorem witness_priority :
    let s : State := { irqState with requests := 0b1000000000 }
    s.slot = false ∧ s.pending = none ∧ s.req .trace = true ∧ s.irqEnabled .trace = true ∧
      (∀ m ∈ irqOrder, Irq.row m < Irq.row .trace → ¬ (s.req m = true ∧ s.irqEnabled m = true)) ∧ s.irqWait = some 0 ∧
      State.irqWait { s with irqWait := some 1 } = some 1 ∧
      (∀ m ∈ irqOrder, ¬ (testState.req m = true ∧ testState.irqEnabled m = true)) ∧
      State.slot { s with slot := true } = true ∧ (pendingState 0).pending ≠ none ∧ s.enabledIrq = some .trace :=
  ⟨rfl, rfl, by decide, by decide, by decide, rfl, rfl, by decide, rfl, by decide, by decide⟩

theorem witness_interrupt_then_return : PAllowed false irqState ∧ irqState.pending = none ∧
    (∃ t, enterInterrupt .trace irqState = .next t) ∧ (5 : Word) ∉ storedWords (irqState.readAr 7) true :=
  ⟨pAllowed_false _, rfl, ⟨_, rfl⟩, by decide⟩

theorem witness_refused_fetches : testState.par.pMode = .refuse ∧ parallelOf (.addW 0 1 2 (.nopR true)) = true ∧
    let s : State := { testState.placeFetchWord 0x4827000050100000 with slot := true }
    s.slot = true ∧ Accessible s s.pc true ∧ s.codeStored = false ∧ isLongWord (s.word (s.pc ||| 1#32)) = true :=
  ⟨rfl, rfl, rfl, rfl, rfl, rfl⟩

/-- Every storing form stores at the top of memory or of the stack, and the fetch there is refused. -/
theorem witness_noted_stores :
    (∃ t, exec (.addW 0 1 2 (.stR false .preDec 3 0b101111)) testState = .next t ∧ t.stored = [0xFFFFFFFE, 0xFFFFFFFF]) ∧
    Instr.transferOf (.addW 0 1 2 (.stR false .preDec 3 0b101111)) = .stR false .preDec 3 0b101111 ∧
    srcOf 0b101111 = some .pswrPc ∧
    (∃ t, exec (.stI false .loadK 3 0b010001 0x101) testState = .next t ∧ t.stored = [0x101] ∧
      (0x101 : Word).toNat ∈ t.stored ∧ t.pc &&& 0xFFFFFFFE#32 = 0x101 &&& 0xFFFFFFFE#32 ∧ Accessible t t.pc true) ∧
    srcOf 0b010001 = some (.gr 1) ∧ condHolds .al testState.flags = true ∧
    (∃ t, exec (.callR false .ar 3 .al) testState = .next t ∧ t.stored = [0, 1]) ∧
    (∃ t, exec (.callI false .k 3 .al 7) testState = .next t ∧ t.stored = [0, 1]) ∧
    ∃ t, enterInterrupt .trace testState = .next t ∧ t.stored = [0, 1] :=
  ⟨⟨_, rfl, rfl⟩, rfl, rfl, ⟨_, rfl, rfl, by decide, by decide, rfl⟩, rfl, rfl, ⟨_, rfl, rfl⟩, ⟨_, rfl, rfl⟩, ⟨_, rfl, rfl⟩⟩

theorem witness_noted_dma_stores :
    let now : List Input := [.dmaStoreWord 0x10 7, .dmaStorePair 0x13 8]
    let s : State := { agentState.placeFetchWord 0x5010000050100000 with inputs := [now], stored := [5] }
    s.par.dmaModel = .agent ∧ Accessible s 0x10 false ∧ (0x12 : Word) ∈ storedWords 0x13 true ∧ Accessible s 0x12 false ∧
      s.inputs = now :: [] ∧ Input.dmaStoreWord 0x10 7 ∈ now ∧ Input.dmaStorePair 0x13 8 ∈ now ∧
      ∃ t, step s = .next t ∧ t.stored = [5, 0x10, 0x12, 0x13] :=
  ⟨rfl, rfl, by decide, rfl, rfl, by decide, by decide, ⟨_, rfl, rfl⟩⟩

theorem witness_other_agents :
    let s : State := { agentState with inputs := [[.request .timer1, .request .dmaIn0, .dmaStoreWord 0x10 7]], requests := 1 }
    s.req .timer0 = true ∧ s.inputs = [.request .timer1, .request .dmaIn0, .dmaStoreWord 0x10 7] :: [] ∧
      Input.request .dmaIn0 ∈ [Input.request .timer1, .request .dmaIn0, .dmaStoreWord 0x10 7] ∧
      Accessible s 0xFFFFFFFF false ∧ Accessible s 0xFFFFFFFF true ∧ s.par.timerModel = .environment ∧
      s.par.dmaModel = .agent ∧ s.agentsAct.requests = 0b100100001 ∧ s.agentsAct.word 0x10 = 7 :=
  ⟨by decide, rfl, by decide, rfl, rfl, rfl, rfl, by decide, by decide⟩

/-- T0 reaches its expiry and starts again, T1 does not run; and without a DMA agent its inputs do nothing. -/
theorem test_timer_counters :
    let s : State := { counterState with inputs := [[.request .timer1, .request .dmaIn0, .dmaStoreWord 0x10 7]] }
    s.par.dmaModel = .none ∧ counterState.par.timerModel = .counters testCounter stoppedCounter ∧
      (∃ m ∈ testCounter.runs, s.pswr &&& m.1 = m.2) ∧ (¬ ∃ m ∈ stoppedCounter.runs, s.pswr &&& m.1 = m.2) ∧
      s.timer .t0 + testCounter.step = testCounter.expiry ∧
      (s.agentsAct.t0, s.agentsAct.t1, s.agentsAct.requests, s.agentsAct.mem, s.agentsAct.stored) = (0, 7, 1, [], []) := by
  decide

end Sys2Proof.Tests
end

section
/-!
What committing the two parts of a word leaves (R125): each field of the state at the end of the instruction, the memory access
and register writes that do not depend on the OP part, and the collisions.
-/

namespace Sys2Proof.Machine

/-! ### The end of an instruction, field by field -/

/-- PSWR after the OP part: the flags it stores, if it stores any (R31, R250). -/
def OpEffect.pswrAfter (o : OpEffect) (l : PswrLayout) (pswr : Word) : Word :=
  match o.flags with
  | some f => storeFlags l pswr f
  | none => pswr

/-- The requests after the OP part: interrupt 2's set, if it asks for it (R273). -/
def OpEffect.requestsAfter (o : OpEffect) (s : State) : BitVec 10 :=
  if o.overflow then (s.raise .overflow).requests else s.requests

theorem State.applyOp_eq (s : State) (o : OpEffect) :
    s.applyOp o = { s with
      gr := (s.setGrs o.grs).gr
      pswr := o.pswrAfter s.par.pswrLayout s.pswr
      requests := o.requestsAfter s } := by
  obtain ⟨gs, f, ov, dr⟩ := o
  obtain ⟨g, hg⟩ := State.setGrs_frame gs s
  simp only [State.applyOp, OpEffect.pswrAfter, OpEffect.requestsAfter, hg]
  cases f <;> cases ov <;> rfl

/-- A decided transfer is pending when the instruction ends; nothing else in a word touches `pending` (R212). -/
theorem State.finish_pending (s : State) (ws : List RegWrite) (j : Option Word) (dr : Bool) (o : OpEffect) :
    (s.finish ws j dr o).pending = (s.decideTransfer j).pending := by
  obtain ⟨-, -, -, -, hpending, -, -, -, -, -, hpar⟩ := State.writeAll_frame ws s
  rw [State.finish, State.advanceDraws_pending, State.applyOp_eq]
  cases j
  · exact hpending
  · simp only [State.decideTransfer_some_pending, hpar]

theorem State.finish_draws (s : State) (ws : List RegWrite) (j : Option Word) (dr : Bool) (o : OpEffect) :
    (s.finish ws j dr o).draws = s.draws + (dr || o.draws).toNat := by
  obtain ⟨-, -, -, -, -, -, -, -, -, hdraws, -⟩ := State.writeAll_frame ws s
  rw [State.finish, State.applyOp_eq]
  cases dr || o.draws <;> simp [hdraws]

/-- What an instruction leaves: the register writes of its transfer part, then what the OP part makes of the general registers,
PSWR and the requests, the decided transfer and the counter (R125 point 7). -/
theorem State.finish_eq (s : State) (ws : List RegWrite) (j : Option Word) (dr : Bool) (o : OpEffect) :
    s.finish ws j dr o = { s.writeAll ws with
      gr := ((s.writeAll ws).setGrs o.grs).gr
      pswr := o.pswrAfter s.par.pswrLayout (s.writeAll ws).pswr
      requests := o.requestsAfter s
      pending := (s.decideTransfer j).pending
      draws := s.draws + (dr || o.draws).toNat } := by
  obtain ⟨-, -, -, -, hpending, hrequests, -, -, -, hdraws, hpar⟩ := State.writeAll_frame ws s
  rw [State.finish, State.applyOp_eq]
  simp only [OpEffect.requestsAfter, State.raise, hrequests, hpar]
  cases j <;> cases dr || o.draws <;>
    simp [State.decideTransfer, State.advanceDraws, hpending, hdraws]

/-! ### Committing the two parts -/

/-- A write changes memory and the stored addresses only. -/
theorem State.writeValue_eq (s : State) (a : Word) (wide : Bool) (v : DWord) :
    s.writeValue a wide v =
      { s with mem := (s.writeValue a wide v).mem, stored := (s.writeValue a wide v).stored } := by
  cases wide <;> rfl

/-- When a word's effects are committed, its memory access and its transfer part's register writes do not depend on the OP part:
beside any OP part that does not collide the same are done (R125 points 6 and 7). -/
theorem commit_eq_finish {t : Plan} {o : OpEffect} {s u : State} (h : commit t o s = .next u) :
    ∃ (m : State) (ws : List RegWrite) (j : Option Word),
      (m = s ∨ ∃ a wide v, m = s.writeValue a wide v) ∧ ws.map RegWrite.reg = t.targets ∧
        u = m.finish ws j t.draws o ∧
        ∀ o', collides t o' = false → commit t o' s = .next (m.finish ws j t.draws o') := by
  obtain ⟨-, hpending, haccess⟩ := commit_eq_next.1 h
  cases ha : t.access with
  | none =>
    rw [ha] at haccess
    refine ⟨s, t.writes, t.jump, .inl rfl, by simp [Plan.targets, ha], haccess, fun o' ho => ?_⟩
    exact commit_eq_next.2 ⟨ho, hpending, by rw [ha]⟩
  | load a dst =>
    rw [ha] at haccess
    refine ⟨s, _, _, .inl rfl, ?_, haccess.2, fun o' ho => ?_⟩
    · simp [Plan.targets, ha]
    · exact commit_eq_next.2 ⟨ho, hpending, by rw [ha]; exact ⟨haccess.1, rfl⟩⟩
  | store a wide v =>
    rw [ha] at haccess
    refine ⟨_, t.writes, t.jump, .inr ⟨a, wide, v, rfl⟩, by simp [Plan.targets, ha], haccess.2, fun o' ho => ?_⟩
    exact commit_eq_next.2 ⟨ho, hpending, by rw [ha]; exact ⟨haccess.1, rfl⟩⟩

/-- The three collisions of R125 point 6. -/
theorem collides_iff (t : Plan) (o : OpEffect) :
    collides t o = true ↔
      ¬ t.targets.Nodup ∨ (∃ i ∈ o.grs.map Prod.fst, Target.gr i ∈ t.targets) ∨
        (o.flags.isSome = true ∧ Target.pswr ∈ t.targets) := by
  rw [collides, Bool.or_eq_true, Bool.or_eq_true, or_assoc, List.any_eq_true]
  refine or_congr (by simp) (or_congr ⟨?_, ?_⟩ (by simp))
  · rintro ⟨r, hr, hw⟩
    cases r with
    | gr i =>
      obtain ⟨w, hw, hi⟩ := List.any_eq_true.1 hw
      exact ⟨i, List.mem_map.2 ⟨w, hw, beq_iff_eq.1 hi⟩, hr⟩
    | _ => cases hw
  · rintro ⟨i, hi, hr⟩
    obtain ⟨w, hw, rfl⟩ := List.mem_map.1 hi
    exact ⟨_, hr, List.any_eq_true.2 ⟨w, hw, beq_self_eq_true _⟩⟩

end Sys2Proof.Machine
end

section
/-!
Every step keeps the invariant: what a step is made of keeps it piece by piece, together with the parameters, the counter of
the free values and the list of inputs, and the pieces compose.
-/

namespace Sys2Proof.Machine

/-! ### The invariant under one change of the state -/

/-- A stored word is listed in memory from then on, so a store keeps the invariant (R62, R78). -/
theorem State.Inv.setWord {s : State} (h : s.Inv) (a v : Word) : (s.setWord a v).Inv := by
  obtain ⟨hwf, hstored, hpending⟩ := h
  simp only [State.wf, Bool.and_eq_true] at hwf
  refine ⟨?_, fun b hb => ?_, hpending⟩
  · simpa only [State.wf, Bool.and_eq_true] using setWord_rising a v hwf.1 hwf.2
  · rw [State.setWord_mem, Memory.addresses_write, mem_insertAddr]
    rw [State.setWord_stored, mem_insertAddr] at hb
    exact hb.imp_right (hstored b)

theorem State.Inv.writeValue {s : State} (h : s.Inv) (a : Word) (wide : Bool) (v : DWord) :
    (s.writeValue a wide v).Inv := by
  cases wide
  · exact h.setWord _ _
  · exact (h.setWord _ _).setWord _ _

theorem State.Inv.dmaStore {s : State} (h : s.Inv) (a v : Word) : (s.dmaStore a v).Inv := by
  rcases State.dmaStore_cases s a v with e | e <;> rw [e]
  · exact h.setWord a v
  · exact h

/-- The agents write memory only by the stores of the DMA co-processor, so what one does keeps the invariant. -/
theorem State.Inv.act {s : State} (h : s.Inv) (x : Input) : (Machine.act s x).Inv := by
  cases x with
  | dmaStoreWord a v => exact h.dmaStore a v
  | dmaStorePair a v => exact (h.dmaStore _ _).dmaStore _ _
  | request q => exact h
  | dmaChannel c regs => exact h
  | dmaRequests bits => exact h

theorem State.Inv.applyInput {s : State} (h : s.Inv) (x : Input) : (Machine.applyInput s x).Inv := by
  rcases applyInput_cases s x with e | e <;> rw [e]
  · exact h.act x
  · exact h

theorem State.Inv.foldl_applyInput (xs : List Input) {s : State} (h : s.Inv) : (xs.foldl Machine.applyInput s).Inv := by
  induction xs generalizing s with
  | nil => exact h
  | cons x rest ih => exact ih (h.applyInput x)

theorem State.Inv.takeInputs {s : State} (h : s.Inv) : s.takeInputs.Inv := by
  unfold State.takeInputs
  split
  · exact h
  · next now later _ => exact State.Inv.foldl_applyInput now (s := { s with inputs := later }) h

theorem State.Inv.agentsAct {s : State} (h : s.Inv) : s.agentsAct.Inv := by
  obtain ⟨r, x, y, e⟩ := State.tickTimers_frame s.takeInputs
  rw [State.agentsAct, e]
  exact h.takeInputs

/-- A transfer decided now waits for BRANCH_DELAY, so the end of an instruction keeps the invariant (R212). -/
theorem State.Inv.finish {s : State} (h : s.Inv) (ws : List RegWrite) (j : Option Word) (dr : Bool) (o : OpEffect) :
    (s.finish ws j dr o).Inv := by
  obtain ⟨hwf, hstored, hpending⟩ := h
  obtain ⟨hm, hs, -, -, -, -, -, hp⟩ := State.finish_frame s ws j dr o
  refine ⟨by rwa [State.wf, hm, hs], by rwa [hm, hs], fun q hq => ?_⟩
  rw [State.finish_pending] at hq
  rw [hp]
  cases j with
  | none => exact hpending q hq
  | some target =>
    cases hq
    exact le_rfl

/-- The end of a fetch word only counts a pending transfer down (R126). -/
theorem State.Inv.nextWord {s : State} (h : s.Inv) : s.nextWord.Inv := by
  obtain ⟨hwf, hstored, hpending⟩ := h
  unfold State.nextWord
  split
  · exact ⟨hwf, hstored, hpending⟩
  · exact ⟨hwf, hstored, nofun⟩
  · next target n e =>
    refine ⟨hwf, hstored, fun q hq => ?_⟩
    cases hq
    exact (Nat.le_succ n).trans (hpending _ e)

theorem State.Inv.afterInstr {s : State} (h : s.Inv) (long : Bool) (before : State) :
    (Machine.afterInstr long before s).Inv := by
  obtain ⟨r, e⟩ := State.traced_frame (advance long before s)
  rw [Machine.afterInstr, e]
  unfold advance
  split
  · exact h.nextWord
  · exact h

/-! ### What an instruction and an interrupt entry keep -/

/-- `t` follows `s` in one step: the invariant, the parameters and the inputs are kept, and the counter of the free values does
not go back (R8, R13). -/
structure Keeps (s t : State) : Prop where
  inv : s.Inv → t.Inv
  par : t.par = s.par
  draws : s.draws ≤ t.draws
  inputs : t.inputs = s.inputs

theorem Keeps.trans {s t u : State} (h : Keeps s t) (h' : Keeps t u) : Keeps s u where
  inv hs := h'.inv (h.inv hs)
  par := h'.par.trans h.par
  draws := h.draws.trans h'.draws
  inputs := h'.inputs.trans h.inputs

theorem keeps_writeValue (s : State) (a : Word) (wide : Bool) (v : DWord) : Keeps s (s.writeValue a wide v) where
  inv h := h.writeValue a wide v
  par := State.writeValue_par s a wide v
  draws := (State.writeValue_draws s a wide v).ge
  inputs := State.writeValue_inputs s a wide v

theorem keeps_finish (s : State) (ws : List RegWrite) (j : Option Word) (dr : Bool) (o : OpEffect) :
    Keeps s (s.finish ws j dr o) := by
  obtain ⟨-, -, -, -, -, hi, -, hp⟩ := State.finish_frame s ws j dr o
  exact { inv := fun h => h.finish ws j dr o, par := hp, inputs := hi,
          draws := (State.finish_draws s ws j dr o).symm ▸ Nat.le_add_right _ _ }

theorem keeps_exec {i : Instr} {s t : State} (h : exec i s = .next t) : Keeps s t := by
  obtain ⟨-, plan, o, -, -, hc⟩ := exec_eq_next.1 h
  obtain ⟨m, ws, j, hm, -, rfl, -⟩ := commit_eq_finish hc
  rcases hm with rfl | ⟨a, wide, v, rfl⟩
  · exact keeps_finish _ _ _ _ _
  · exact (keeps_writeValue s a wide v).trans (keeps_finish _ _ _ _ _)

theorem keeps_afterInstr (long : Bool) (before s : State) : Keeps s (afterInstr long before s) := by
  obtain ⟨pc, sl, pe, r, e⟩ := afterInstr_frame long before s
  exact { inv := fun h => h.afterInstr long before, par := by rw [e], draws := by rw [e], inputs := by rw [e] }

theorem keeps_runInstr {s t : State} (h : runInstr s = .next t) : Keeps s t := by
  obtain ⟨f, i, u, -, -, hexec, rfl⟩ := runInstr_eq_next.1 h
  exact (keeps_exec hexec).trans (keeps_afterInstr _ _ _)

theorem keeps_enterInterrupt {n : Irq} {s t : State} (h : enterInterrupt n s = .next t) : Keeps s t := by
  obtain ⟨-, rfl⟩ := enterInterrupt_eq_next.1 h
  obtain ⟨inv, par, draws, inputs⟩ := keeps_writeValue s s.pushAddr true (s.stackEntry s.pc)
  exact ⟨inv, par, draws, inputs⟩

theorem irqDecision_draws_le (s : State) : s.draws ≤ (irqDecision s).2.draws := by
  have advance_le (b : Bool) : s.draws ≤ (s.advanceDraws b).draws := by
    cases b
    · exact le_rfl
    · exact Nat.le_succ _
  unfold irqDecision
  split
  · split
    · exact le_rfl
    · dsimp only
      split <;> exact advance_le _
  · exact le_rfl

theorem keeps_irqDecision (s : State) : Keeps s (irqDecision s).2 := by
  obtain ⟨w, d, e⟩ := irqDecision_frame s
  exact { inv := fun h => e ▸ h, par := by rw [e], inputs := by rw [e], draws := irqDecision_draws_le s }

/-- After the other agents have acted, a step chooses an interrupt and enters it or executes an instruction. -/
theorem keeps_step_of_agentsAct {s t : State} (h : step s = .next t) : Keeps s.agentsAct t := by
  refine (keeps_irqDecision s.agentsAct).trans ?_
  rcases step_eq_next.1 h with ⟨n, -, hn⟩ | ⟨-, hi⟩
  · exact keeps_enterInterrupt hn
  · exact keeps_runInstr hi

/-- Settles O8: the other agents keep the invariant and take the first list of inputs; the rest of the step keeps all of it. -/
theorem stepKeepsTheInvariant : Obligations.StepKeepsTheInvariant := by
  intro s t h
  obtain ⟨inv, par, draws, inputs⟩ := keeps_step_of_agentsAct h
  obtain ⟨r, d, x, y, c, m, st, e⟩ := State.agentsAct_frame s
  refine ⟨fun hs => inv hs.agentsAct, ?_, ?_, ?_⟩
  · rw [par, e]
  · exact (congrArg State.draws e).ge.trans draws
  · rw [inputs, e]

end Sys2Proof.Machine
end

section
/-!
A word beside its two parts alone (R125): each part reads the state before the word, so what the word leaves is what the
transfer part alone leaves with the OP part's registers, flags and request put in.
-/

namespace Sys2Proof.Machine

/-! ### The word's parts alone -/

theorem transferOf_of_isTransfer {t : Instr} (h : t.isTransfer = true) : t.transferOf = t := by
  cases t <;> first | rfl | cases h

/-- The OP part of a word alone stands beside NOP.R. -/
theorem transferPart_opAlone (i : Instr) (s : State) : transferPart i.opAlone.transferOf s = noTransfer := by
  cases i <;> rfl

/-- A word's transfer part alone answers with its plan and the null OP committed. -/
theorem exec_transferOf_eq_next {i : Instr} {s a : State} (hi : i.wellFormed = true)
    (h : exec i.transferOf s = .next a) :
    PAllowed (parallelOf i) s ∧ ∃ plan, transferPart i.transferOf s = .next plan ∧ commit plan {} s = .next a := by
  have htransfer := isTransfer_transferOf hi
  obtain ⟨hp, plan, o, hplan, ho, hcommit⟩ := exec_eq_next.1 h
  rw [transferOf_of_isTransfer htransfer] at hplan
  rw [opPart_of_isTransfer htransfer] at ho
  cases ho
  exact ⟨(parallelOf_parts i).1 ▸ hp, plan, hplan, hcommit⟩

/-- A word's OP part alone answers with its effect on the state before the word. -/
theorem exec_opAlone_eq_next {i : Instr} {s b : State} (h : exec i.opAlone s = .next b) :
    ∃ o, opPart i s = .next o ∧ b = s.finish [] none false o := by
  obtain ⟨-, plan, o, hplan, ho, hcommit⟩ := exec_eq_next.1 h
  rw [transferPart_opAlone] at hplan
  cases hplan
  exact ⟨o, opPart_opAlone i s ▸ ho, (commit_eq_next.1 hcommit).2.2⟩

/-! ### When the parts collide -/

/-- Where the transfer part writes no register twice, the word's two parts collide as `PartsCollide` says (R125 point 6). -/
theorem collides_iff_partsCollide {i : Instr} {s : State} {plan : Plan} {o : OpEffect}
    (hplan : transferPart i.transferOf s = .next plan) (ho : opPart i s = .next o) (hnodup : plan.targets.Nodup) :
    collides plan o = true ↔ PartsCollide i.transferOf s (opTargets i s) (i.storesFlags s.par.shiftFlags) := by
  have hwrites (r : Target) : WritesReg i.transferOf s r ↔ r ∈ plan.targets := by
    simp [WritesReg, hplan]
  obtain ⟨hgrs, hflags, -⟩ := opPart_writes ho
  simp only [collides_iff, PartsCollide, hwrites, hgrs, hflags, hnodup, not_true_eq_false, false_or]

/-! ### The word's effect from those of its parts -/

/-- The registers that general-register writes name do not depend on the state written to. -/
theorem State.setGrs_readGr_of_mem (ws : List (RegIx × Word)) (s t : State) {i : RegIx} (h : i ∈ ws.map Prod.fst) :
    (s.setGrs ws).readGr i = (t.setGrs ws).readGr i := by
  induction ws generalizing s t with
  | nil => cases h
  | cons w rest ih =>
    by_cases hrest : i ∈ rest.map Prod.fst
    · exact ih _ _ hrest
    · obtain rfl : i = w.1 := (List.mem_cons.1 h).resolve_right hrest
      simp only [State.setGrs_cons, State.setGrs_readGr_of_not_mem rest _ _ hrest, State.readGr_setGr_self]

/-- General-register writes on a state that agrees with `s` where they write, told from what they make of `s`. -/
theorem State.setGrs_readGr_merge (ws : List (RegIx × Word)) (s t : State)
    (h : ∀ i ∈ ws.map Prod.fst, t.readGr i = s.readGr i) (i : RegIx) :
    (t.setGrs ws).readGr i =
      if (s.setGrs ws).readGr i = s.readGr i then t.readGr i else (s.setGrs ws).readGr i := by
  by_cases hi : i ∈ ws.map Prod.fst
  · rw [State.setGrs_readGr_of_mem ws t s hi]
    split
    · next same => rw [same, h i hi]
    · rfl
  · rw [State.setGrs_readGr_of_not_mem ws t i hi, State.setGrs_readGr_of_not_mem ws s i hi, if_pos rfl]

/-- The same for PSWR: the OP part leaves it alone, or stores flags in a PSWR that the transfer part left alone. -/
theorem OpEffect.pswrAfter_merge (o : OpEffect) (l : PswrLayout) (x y : Word) (h : o.flags.isSome = true → y = x) :
    o.pswrAfter l y = if o.pswrAfter l x = x then y else o.pswrAfter l x := by
  cases ho : o.flags with
  | none => simp [OpEffect.pswrAfter, ho]
  | some f =>
    obtain rfl : y = x := h (by simp [ho])
    split
    · next same => exact same
    · rfl

/-- After a memory access `m` of `s`, the two parts of a word that do not collide leave the changes of both. -/
theorem State.finish_eq_bothParts {s m : State} (hm : ∃ mem st, m = { s with mem := mem, stored := st })
    (ws : List RegWrite) (j : Option Word) (dr : Bool) (o : OpEffect)
    (hgr : ∀ i ∈ o.grs.map Prod.fst, Target.gr i ∉ ws.map RegWrite.reg)
    (hpswr : o.flags.isSome = true → Target.pswr ∉ ws.map RegWrite.reg) :
    m.finish ws j dr o = bothParts s (m.finish ws j dr {}) (s.finish [] none false o) := by
  obtain ⟨mem, st, rfl⟩ := hm
  set m : State := { s with mem := mem, stored := st }
  have gr (i : RegIx) := State.setGrs_readGr_merge o.grs s (m.writeAll ws)
    (fun i hi => State.writeAll_gr_of_not_mem ws m i (hgr i hi)) i
  have pswr := o.pswrAfter_merge s.par.pswrLayout s.pswr (m.writeAll ws).pswr
    (fun ho => State.writeAll_pswr_of_not_mem ws m (hpswr ho))
  have grs : ((m.writeAll ws).setGrs o.grs).gr = Vector.ofFn fun i : RegIx =>
      if (s.setGrs o.grs).readGr i = s.readGr i then (m.writeAll ws).readGr i else (s.setGrs o.grs).readGr i := by
    refine Vector.ext fun k hk => ?_
    rw [Vector.getElem_ofFn]
    exact gr ⟨k, hk⟩
  have draws : s.draws + (dr || o.draws).toNat =
      max (s.draws + (dr || false).toNat) (s.draws + (false || o.draws).toNat) := by
    cases dr <;> cases o.draws <;> simp
  rw [State.finish_eq m ws j dr o, State.finish_eq m ws j dr {}, State.finish_eq s [] none false o, grs, pswr, draws]
  rfl

/-- Settles O52: the word's plan and its OP part's effect are those of the two parts alone, and committing them together either
collides or leaves both changes. -/
theorem theTwoPartsActTogether : Obligations.TheTwoPartsActTogether := by
  intro i s a b hi ha hb
  obtain ⟨hp, plan, hplan, hcommit⟩ := exec_transferOf_eq_next hi ha
  obtain ⟨o, ho, rfl⟩ := exec_opAlone_eq_next hb
  obtain ⟨m, ws, j, hm, htargets, rfl, hbeside⟩ := commit_eq_finish hcommit
  have hnodup : plan.targets.Nodup := by
    by_contra hdup
    have hcollides := (collides_iff plan {}).2 (.inl hdup)
    rw [(commit_eq_next.1 hcommit).1] at hcollides
    cases hcollides
  have hcollide := collides_iff_partsCollide hplan ho hnodup
  rw [exec_of_parts hp hplan ho, ← hcollide]
  refine ⟨fun h => by rw [commit, if_pos h], fun h => ?_⟩
  rw [hbeside o (by simpa using h)]
  rw [collides_iff, not_or, not_or, ← htargets] at h
  obtain ⟨-, hgr, hpswr⟩ := h
  have hframe : ∃ mem st, m = { s with mem := mem, stored := st } := by
    rcases hm with rfl | ⟨a, wide, v, rfl⟩
    · exact ⟨_, _, rfl⟩
    · exact ⟨_, _, State.writeValue_eq s a wide v⟩
  rw [State.finish_eq_bothParts hframe ws j plan.draws o (fun i hi hw => hgr ⟨i, hi, hw⟩) (fun hf hw => hpswr ⟨hf, hw⟩)]

end Sys2Proof.Machine
end

section
/-!
What the other agents do at a step boundary, request by request and field by field (R302, R306, R330, R336; log 26, 27, 28).
-/

namespace Sys2Proof.Machine

/-! ### Requests -/

/-- The order of priority is that of the rows of Table 4-1 (R301, R304). -/
theorem irqOrder_row (n : Irq) : irqOrder[(Irq.row n).val]? = some n := by
  cases n <;> rfl

theorem Irq.row_injective : Function.Injective Irq.row := by
  intro m n h
  exact Option.some_inj.1 (by rw [← irqOrder_row m, h, irqOrder_row n])

/-- Raising a request sets it and leaves the nine others (R302). -/
theorem State.req_raise (s : State) (m n : Irq) : (s.raise m).req n = (s.req n || decide (n = m)) := by
  have hrow : (Irq.row m).val = (Irq.row n).val ↔ n = m :=
    Fin.val_inj.trans (Irq.row_injective.eq_iff.trans eq_comm)
  have hbit : (1#10 <<< (Irq.row m).val).getLsbD (Irq.row n).val = decide (n = m) := by
    rw [← BitVec.twoPow_eq, BitVec.getLsbD_twoPow]
    simp [hrow]
  rw [State.req, State.raise, BitVec.getLsbD_or, hbit, State.req]

/-- A request bit reads only the request register. -/
theorem State.req_congr {s t : State} (h : s.requests = t.requests) (n : Irq) : s.req n = t.req n := by
  rw [State.req, State.req, h]

/-- The interrupt that an input asks for, if it is a request (R306). -/
def Input.asks (x : Input) : Option Irq :=
  match x with
  | .request q => some (AsyncIrq.irq q)
  | _ => none

/-- An action sets the request it asks for and leaves every other request alone. -/
theorem req_act (s : State) (x : Input) (n : Irq) : (act s x).req n = (s.req n || decide (x.asks = some n)) := by
  have kept {t : State} (h : t.requests = s.requests) (hx : x.asks = none) :
      t.req n = (s.req n || decide (x.asks = some n)) := by
    rw [State.req_congr h, hx]
    simp
  have store (s : State) (a v : Word) : (s.dmaStore a v).requests = s.requests := by
    obtain ⟨m, st, e⟩ := State.dmaStore_frame s a v
    rw [e]
  cases x with
  | request q =>
    rw [act, State.req_raise]
    simp [Input.asks, eq_comm]
  | dmaStoreWord a v => exact kept (store s a v) rfl
  | dmaStorePair a v => exact kept ((store _ _ _).trans (store _ _ _)) rfl
  | dmaChannel c regs => exact kept rfl rfl
  | dmaRequests bits => exact kept rfl rfl

/-- The request that an input makes where the parameters have its agent. -/
def Input.requests (par : Params) (n : Irq) (x : Input) : Bool := admits par x && decide (x.asks = some n)

theorem req_applyInput (s : State) (x : Input) (n : Irq) :
    (applyInput s x).req n = (s.req n || x.requests s.par n) := by
  unfold applyInput Input.requests
  split
  · next h => rw [req_act, h, Bool.true_and]
  · next h => simp [h]

theorem req_foldl_applyInput (xs : List Input) (s : State) (n : Irq) :
    (xs.foldl applyInput s).req n = (s.req n || xs.any (Input.requests s.par n)) := by
  induction xs generalizing s with
  | nil => simp
  | cons x rest ih =>
    obtain ⟨r, d, c, m, st, e⟩ := applyInput_frame s x
    have hpar : (applyInput s x).par = s.par := by rw [e]
    rw [List.foldl_cons, ih, req_applyInput, hpar, List.any_cons, Bool.or_assoc]

/-- After the inputs of a step boundary a request is set if it was, or if one of the inputs makes it. -/
theorem State.req_takeInputs (s : State) (n : Irq) :
    s.takeInputs.req n = (s.req n || (s.inputs.headD []).any (Input.requests s.par n)) := by
  cases h : s.inputs with
  | nil => simp [State.takeInputs, h]
  | cons now later =>
    rw [State.takeInputs, h]
    exact req_foldl_applyInput now { s with inputs := later } n

/-- A moving timer raises its own interrupt, if it expires (R301, R330). -/
theorem State.req_tick (s : State) (t : Timer) (c : TimerCounter) (n : Irq) :
    (s.tick t c).req n = (s.req n || ((tickCounter c s.pswr (s.timer t)).2 && decide (n = timerIrq t))) := by
  have kept (v : Word) : (s.setTimer t v).req n = s.req n := State.req_congr (State.setTimer_requests s t v) n
  unfold State.tick
  split
  · next h => rw [State.req_raise, kept, h, Bool.true_and]
  · next h => simp [kept, h]

/-! ### Timers -/

@[simp] theorem State.timer_setTimer_self (s : State) (t : Timer) (v : Word) : (s.setTimer t v).timer t = v := by
  cases t <;> rfl

theorem State.timer_setTimer_ne (s : State) {t u : Timer} (v : Word) (h : t ≠ u) :
    (s.setTimer t v).timer u = s.timer u := by
  cases t <;> cases u <;> first | rfl | exact absurd rfl h

@[simp] theorem State.timer_raise (s : State) (n : Irq) (t : Timer) : (s.raise n).timer t = s.timer t := by
  cases t <;> rfl

theorem State.timer_tick_self (s : State) (t : Timer) (c : TimerCounter) :
    (s.tick t c).timer t = (tickCounter c s.pswr (s.timer t)).1 := by
  unfold State.tick
  split <;> simp

theorem State.timer_tick_ne (s : State) {t u : Timer} (c : TimerCounter) (h : t ≠ u) :
    (s.tick t c).timer u = s.timer u := by
  unfold State.tick
  split <;> simp [State.timer_setTimer_ne s _ h]

/-- The two timers of TIMER_MODEL = counters move on independently: each by its own counter, from PSWR and its own value. -/
theorem State.tickTimers_counters {s : State} {c0 c1 : TimerCounter} (h : s.par.timerModel = .counters c0 c1) {t : Timer}
    {c : TimerCounter} (htc : (t, c) ∈ [(Timer.t0, c0), (Timer.t1, c1)]) :
    s.tickTimers.timer t = (tickCounter c s.pswr (s.timer t)).1 ∧
      s.tickTimers.req (timerIrq t) = (s.req (timerIrq t) || (tickCounter c s.pswr (s.timer t)).2) := by
  obtain ⟨r, x, y, e⟩ := State.tick_frame s .t0 c0
  have hpswr : (s.tick .t0 c0).pswr = s.pswr := by rw [e]
  have ht1 : (s.tick .t0 c0).timer .t1 = s.timer .t1 := State.timer_tick_ne s c0 (by decide)
  have hticks : s.tickTimers = (s.tick .t0 c0).tick .t1 c1 := by rw [State.tickTimers, h]
  simp only [List.mem_cons, Prod.mk.injEq, List.not_mem_nil, or_false] at htc
  rw [hticks]
  rcases htc with ⟨rfl, rfl⟩ | ⟨rfl, rfl⟩
  · rw [State.timer_tick_ne _ c1 (by decide), State.timer_tick_self, State.req_tick, State.req_tick]
    simp [timerIrq]
  · rw [State.timer_tick_self, State.req_tick, State.req_tick, hpswr, ht1]
    simp [timerIrq]

theorem State.tickTimers_environment {s : State} (h : s.par.timerModel = .environment) : s.tickTimers = s := by
  rw [State.tickTimers, h]

/-- The timers request no interrupt but their own. -/
theorem State.req_tickTimers_of_ne {s : State} {n : Irq} (h : ∀ t, n ≠ timerIrq t) : s.tickTimers.req n = s.req n := by
  unfold State.tickTimers
  split
  · rfl
  · simp [State.req_tick, h]

theorem State.req_tickTimers_mono {s : State} {n : Irq} (h : s.req n = true) : s.tickTimers.req n = true := by
  unfold State.tickTimers
  split
  · exact h
  · simp [State.req_tick, h]

theorem pswrHolds_iff (on : PswrPredicate) (pswr : Word) :
    pswrHolds on pswr = true ↔ ∃ m ∈ on, pswr &&& m.1 = m.2 := by
  simp [pswrHolds, List.any_eq_true]

/-- A counter stands still where PSWR does not let it run, or where it has stopped at its expiry (R330; log 26). -/
theorem tickCounter_stopped {c : TimerCounter} {pswr v : Word}
    (h : pswrHolds c.runs pswr ≠ true ∨
      (c.singleStops = true ∧ v = c.expiry ∧ pswrHolds c.periodical pswr ≠ true)) :
    tickCounter c pswr v = (v, false) := by
  unfold tickCounter
  rw [if_pos]
  rcases h with hr | ⟨hs, hv, hp⟩
  · simp [hr]
  · simp [hs, hv, hp]

/-- A counter that runs makes its step, and expires where that meets the expiry (R330; log 26). -/
theorem tickCounter_running {c : TimerCounter} {pswr v : Word} (hruns : pswrHolds c.runs pswr = true)
    (h : c.singleStops = true → v = c.expiry → pswrHolds c.periodical pswr = true) :
    tickCounter c pswr v =
      if v + c.step = c.expiry then (if pswrHolds c.periodical pswr then c.reload else c.expiry, true)
      else (v + c.step, false) := by
  unfold tickCounter
  rw [if_neg]
  simpa [hruns] using h

/-! ### The inputs -/

/-- Under DMA_MODEL = none an input can change the requests only (R336). -/
theorem applyInput_of_no_dma {s : State} (x : Input) (h : s.par.dmaModel = .none) :
    ∃ r, applyInput s x = { s with requests := r } := by
  unfold applyInput
  split
  · next ha =>
    cases x with
    | request q => exact ⟨_, rfl⟩
    | _ => simp [admits, h] at ha
  · exact ⟨s.requests, rfl⟩

theorem foldl_applyInput_of_no_dma (xs : List Input) {s : State} (h : s.par.dmaModel = .none) :
    ∃ r, xs.foldl applyInput s = { s with requests := r } := by
  induction xs generalizing s with
  | nil => exact ⟨s.requests, rfl⟩
  | cons x rest ih =>
    obtain ⟨r, e⟩ := applyInput_of_no_dma x h
    obtain ⟨r', e'⟩ := ih (s := { s with requests := r }) h
    exact ⟨r', by rw [List.foldl_cons, e, e']⟩

theorem State.takeInputs_of_no_dma {s : State} (h : s.par.dmaModel = .none) :
    ∃ r, s.takeInputs = { s with requests := r, inputs := s.inputs.tail } := by
  cases hs : s.inputs with
  | nil => exact ⟨s.requests, by simp only [State.takeInputs, hs, List.tail_nil]; rw [← hs]⟩
  | cons now later =>
    simp only [State.takeInputs, hs]
    exact foldl_applyInput_of_no_dma now (s := { s with inputs := later }) h

theorem timersFree_iff {m : TimerModel} : timersFree m = true ↔ m = .environment := by
  cases m <;> simp [timersFree]

/-- Who can request an interrupt: anyone the external one, the environment those of the timers while TIMER_MODEL leaves them to
it, the DMA co-processor its own (R330, R336; log 28). -/
theorem admits_request {par : Params} {q : AsyncIrq} :
    admits par (.request q) = true ↔
      q = .external ∨ ((q = .timer0 ∨ q = .timer1) ∧ par.timerModel = .environment) ∨
        (q ≠ .timer0 ∧ q ≠ .timer1 ∧ par.dmaModel = .agent) := by
  cases q <;> simp [admits, timersFree_iff]

/-- The inputs leave a request alone that no agent of the parameters can make. -/
theorem State.req_takeInputs_of_not_admitted {s : State} {n : Irq}
    (h : ∀ q, AsyncIrq.irq q = n → admits s.par (.request q) = false) : s.takeInputs.req n = s.req n := by
  have none_asks (x : Input) : x.requests s.par n = false := by
    cases x with
    | request q =>
      by_cases hq : AsyncIrq.irq q = n
      · simp [Input.requests, h q hq]
      · simp [Input.requests, Input.asks, hq]
    | _ => simp [Input.requests, Input.asks]
  rw [State.req_takeInputs, List.any_eq_false.2 fun x _ => by simp [none_asks x], Bool.or_false]

/-! ### A whole step boundary -/

/-- The other agents clear no request (R302). -/
theorem State.req_agentsAct_mono {s : State} {n : Irq} (h : s.req n = true) : s.agentsAct.req n = true :=
  State.req_tickTimers_mono (by rw [State.req_takeInputs, h, Bool.true_or])

/-- A request that is no timer's and that no agent of the parameters can make stays as it was. -/
theorem State.req_agentsAct_of_not_admitted {s : State} {n : Irq} (ht : ∀ t, n ≠ timerIrq t)
    (hq : ∀ q, AsyncIrq.irq q = n → admits s.par (.request q) = false) : s.agentsAct.req n = s.req n :=
  (State.req_tickTimers_of_ne ht).trans (State.req_takeInputs_of_not_admitted hq)

/-- A request of an agent that exists is made (R306). -/
theorem State.req_agentsAct_of_mem {s : State} {q : AsyncIrq} {now : List Input} {later : List (List Input)}
    (hs : s.inputs = now :: later) (hq : .request q ∈ now) (ha : admits s.par (.request q) = true) :
    s.agentsAct.req (AsyncIrq.irq q) = true := by
  refine State.req_tickTimers_mono ?_
  have made : now.any (Input.requests s.par (AsyncIrq.irq q)) = true :=
    List.any_eq_true.2 ⟨_, hq, by simp [Input.requests, Input.asks, ha]⟩
  rw [State.req_takeInputs, hs, List.headD_cons, made, Bool.or_true]

theorem State.agentsAct_environment {s : State} (h : s.par.timerModel = .environment) :
    s.agentsAct.t0 = s.t0 ∧ s.agentsAct.t1 = s.t1 := by
  obtain ⟨r, d, c, m, st, e⟩ := State.takeInputs_frame s
  rw [State.agentsAct, State.tickTimers_environment (by rw [e]; exact h), e]
  exact ⟨rfl, rfl⟩

/-- Each counter moves on from what it held before the step boundary: no input is a request of a timer then. -/
theorem State.agentsAct_counters {s : State} {c0 c1 : TimerCounter} (h : s.par.timerModel = .counters c0 c1) {t : Timer}
    {c : TimerCounter} (htc : (t, c) ∈ [(Timer.t0, c0), (Timer.t1, c1)]) :
    s.agentsAct.timer t = (tickCounter c s.pswr (s.timer t)).1 ∧
      s.agentsAct.req (timerIrq t) = (s.req (timerIrq t) || (tickCounter c s.pswr (s.timer t)).2) := by
  have hreq : s.takeInputs.req (timerIrq t) = s.req (timerIrq t) := by
    refine State.req_takeInputs_of_not_admitted fun q hq => ?_
    cases t <;> cases q <;> cases hq
    all_goals simp [admits, h, timersFree]
  obtain ⟨r, d, e, m, st, hframe⟩ := State.takeInputs_frame s
  have hpswr : s.takeInputs.pswr = s.pswr := by rw [hframe]
  have htimer : s.takeInputs.timer t = s.timer t := by
    rw [hframe]
    cases t <;> rfl
  have hmodel : s.takeInputs.par.timerModel = .counters c0 c1 := by
    rw [hframe]
    exact h
  rw [State.agentsAct, ← hreq, ← hpswr, ← htimer]
  exact State.tickTimers_counters hmodel htc

/-- Without a DMA agent nothing of the DMA co-processor's changes (R336). -/
theorem State.agentsAct_of_no_dma {s : State} (h : s.par.dmaModel = .none) :
    s.agentsAct.mem = s.mem ∧ s.agentsAct.stored = s.stored ∧ s.agentsAct.dma = s.dma ∧
      s.agentsAct.dmaRequests = s.dmaRequests := by
  obtain ⟨r, e⟩ := State.takeInputs_of_no_dma h
  obtain ⟨r', x, y, e'⟩ := State.tickTimers_frame s.takeInputs
  rw [State.agentsAct, e', e]
  exact ⟨rfl, rfl, rfl, rfl⟩

/-! ### The actions of the DMA co-processor -/

/-- A word is accessible exactly where MEM_MAP has plain memory (R71, R73). -/
theorem accessWord_eq_next {s : State} {a : Word} :
    s.accessWord a = .next () ↔ memKindAt s.par.memMap a.toNat = some .plain := by
  unfold State.accessWord
  split <;> simp_all

/-- Both words of a 64-bit access are plain memory (R63). -/
theorem accessible_wide {s : State} {a : Word} :
    Accessible s a true ↔ s.accessWord (evenWord a) = .next () ∧ s.accessWord (oddWord a) = .next () := by
  rw [Accessible, State.access, if_pos rfl, andThen_eq_next]
  exact ⟨fun ⟨_, he, ho⟩ => ⟨he, ho⟩, fun ⟨he, ho⟩ => ⟨(), he, ho⟩⟩

theorem State.dmaStore_of_accessWord {s : State} {a : Word} (v : Word) (h : s.accessWord a = .next ()) :
    s.dmaStore a v = s.setWord a v := by
  rw [State.dmaStore, if_pos (accessWord_eq_next.1 h)]

/-- What MEM_MAP lets pass does not depend on what memory holds. -/
theorem State.access_writeValue (s : State) (a b : Word) (w wide : Bool) (v : DWord) :
    (s.writeValue b w v).access a wide = s.access a wide := by
  cases w <;> rfl

/-- A 32-bit write reads back, by its bits 31:0 (R62, R64). -/
theorem memRead_writeValue_narrow {s : State} {a : Word} {v : DWord} (h : Accessible s a false) :
    (s.writeValue a false v).memRead a false = .next ((v.extractLsb' 0 32).zeroExtend 64) := by
  refine State.memRead_eq_next.2 ⟨(State.access_writeValue _ _ _ _ _ _).trans h, ?_⟩
  rw [State.readValue, if_neg (by decide), State.word_writeValue_narrow, if_pos rfl]

/-- A 64-bit value written reads back (R62, R64). -/
theorem memRead_writeValue_wide {s : State} {a : Word} {v : DWord} (h : Accessible s a true) :
    (s.writeValue a true v).memRead a true = .next v := by
  refine State.memRead_eq_next.2 ⟨(State.access_writeValue _ _ _ _ _ _).trans h, ?_⟩
  simp only [State.readValue, State.word_writeValue_wide, evenWord_ne_oddWord, if_true, if_false]
  exact (BitVec.extractLsb'_append_extractLsb' (w := 32) (len := 32)).symm

/-- With a DMA agent every input but a request is done. -/
theorem applyInput_of_dma {s : State} (h : s.par.dmaModel = .agent) {x : Input} (hx : x.asks = none) :
    applyInput s x = act s x := by
  cases x with
  | request q => cases hx
  | _ => rw [applyInput, if_pos (by simp [admits, h])]

/-- A 32-bit store of the DMA co-processor to plain memory is what the core then reads (R336). -/
theorem applyInput_dmaStoreWord {s : State} {a : Word} (v : Word) (hd : s.par.dmaModel = .agent)
    (h : Accessible s a false) : applyInput s (.dmaStoreWord a v) = s.writeValue a false (v.zeroExtend 64) := by
  rw [applyInput_of_dma hd rfl, act, State.dmaStore_of_accessWord v h, State.writeValue, low_zeroExtend]
  rfl

/-- A 64-bit store of the DMA co-processor to plain memory is a 64-bit write (R64, R336). -/
theorem applyInput_dmaStorePair {s : State} {a : Word} (v : DWord) (hd : s.par.dmaModel = .agent)
    (h : Accessible s a true) : applyInput s (.dmaStorePair a v) = s.writeValue a true v := by
  obtain ⟨heven, hodd⟩ := accessible_wide.1 h
  rw [applyInput_of_dma hd rfl, act, State.dmaStore_of_accessWord _ heven]
  exact State.dmaStore_of_accessWord _ hodd

/-- Settles O60: the frame of the agents' actions, what they make of each request and each timer, and each action of the DMA
co-processor. -/
theorem otherAgentsLeaveTheCore : Obligations.OtherAgentsLeaveTheCore := by
  refine ⟨fun s => ?_, fun s n => ⟨State.req_agentsAct_mono, fun hn => ?_⟩, fun s => State.agentsAct_environment,
    fun s c0 c1 hs t c n htc => ?_, fun s hs => ?_,
    fun s q now later hs hq ha => State.req_agentsAct_of_mem hs hq (admits_request.2 ha), fun s hs => ⟨?_, ?_, ?_, ?_⟩⟩
  · obtain ⟨r, d, x, y, c, m, st, e⟩ := State.agentsAct_frame s
    exact ⟨r, d, x, y, c, m, st, e⟩
  · refine State.req_agentsAct_of_not_admitted (fun t => ?_) fun q hq => ?_
    · rcases hn with rfl | rfl | rfl <;> cases t <;> decide
    · rcases hn with rfl | rfl | rfl <;> cases q <;> cases hq
  · obtain ⟨hcounter, rfl⟩ : (t, c) ∈ [(Timer.t0, c0), (Timer.t1, c1)] ∧ n = timerIrq t := by
      simp only [List.mem_cons, Prod.mk.injEq, List.not_mem_nil, or_false] at htc ⊢
      rcases htc with ⟨rfl, rfl, rfl⟩ | ⟨rfl, rfl, rfl⟩ <;> simp [timerIrq]
    obtain ⟨htimer, hreq⟩ := State.agentsAct_counters hs hcounter
    simp only [← pswrHolds_iff]
    rw [htimer, hreq]
    refine ⟨fun h => ?_, fun ⟨hruns, h⟩ => ?_⟩
    · rw [tickCounter_stopped h]
      simp
    · rw [tickCounter_running hruns h]
      refine ⟨fun hne => by simp [hne], fun he => ?_⟩
      rw [if_pos he]
      exact ⟨Bool.or_true _, fun hp => if_pos hp, fun hp => if_neg hp⟩
  · obtain ⟨hmem, hstored, hdma, hbits⟩ := State.agentsAct_of_no_dma hs
    refine ⟨hmem, hstored, hdma, hbits, fun n hn => ?_⟩
    refine State.req_agentsAct_of_not_admitted (fun t => ?_) fun q hq => ?_
    · rcases hn with rfl | rfl | rfl | rfl <;> cases t <;> decide
    · rcases hn with rfl | rfl | rfl | rfl <;> cases q <;> cases hq <;> simp [admits, hs]
  · intro a v h
    refine ⟨_, applyInput_dmaStoreWord v hs h, ?_, fun b hb => ?_, State.writeValue_eq _ _ _ _⟩
    · rw [memRead_writeValue_narrow h, low_zeroExtend]
    · exact State.word_writeValue_of_not_mem s _ (by simpa [storedWords] using hb)
  · intro a v h
    exact ⟨_, applyInput_dmaStorePair v hs h, memRead_writeValue_wide h,
      fun b hb => State.word_writeValue_of_not_mem s v hb, State.writeValue_eq _ _ _ _⟩
  · intro c regs
    refine ⟨_, applyInput_of_dma hs rfl, State.channel_setChannel_self s c regs, fun e he => ?_, rfl⟩
    exact State.channel_setChannel_ne s regs (Ne.symm he)
  · exact fun bits => applyInput_of_dma hs rfl

end Sys2Proof.Machine
end

section
/-!
A transfer row alone, whichever it is: the state it leaves when it writes a destination, loads or stores, and its refusals
(R36, R125, R150, R336). What one row does is each of these applied to its plan.
-/

namespace Sys2Proof.Machine

/-! ### The null OP beside a transfer part -/

/-- A transfer row that answers commits its plan with the null OP (R248). -/
theorem exec_of_plan {t : Instr} {s : State} {plan : Plan} (ht : t.isTransfer = true) (hp : PAllowed (parallelOf t) s)
    (hplan : transferPart t s = .next plan) : exec t s = commit plan {} s :=
  exec_of_parts hp (by rwa [transferOf_of_isTransfer ht]) (opPart_of_isTransfer ht s)

/-- A transfer row whose transfer part is refused is refused for the same reason. -/
theorem exec_of_refused {t : Instr} {s : State} {r : Refusal} (ht : t.isTransfer = true) (hp : PAllowed (parallelOf t) s)
    (hr : transferPart t s = .refused r) : exec t s = .refused r := by
  rw [exec_eq_runWord, transferOf_of_isTransfer ht, hr, opPart_of_isTransfer ht]
  unfold runWord
  rw [if_neg]
  · rfl
  · intro h
    simp only [Bool.and_eq_true, beq_iff_eq] at h
    rw [hp h.1] at h
    exact absurd h.2 (by decide)

/-- The null OP collides with nothing: only two writes of one register in the transfer part do (R150). -/
theorem collides_nullOp {plan : Plan} : collides plan {} = false ↔ plan.targets.Nodup := by
  rw [← Bool.not_eq_true, collides_iff]
  simp

theorem State.finish_nullOp (s : State) (ws : List RegWrite) (j : Option Word) (dr : Bool) :
    s.finish ws j dr {} = ((s.writeAll ws).decideTransfer j).advanceDraws dr := by
  cases dr <;> rfl

theorem State.writeAll_append (s : State) (ws vs : List RegWrite) :
    s.writeAll (ws ++ vs) = (s.writeAll ws).writeAll vs := List.foldl_append

/-! ### What a transfer row leaves -/

/-- The state after the register writes `more` of a mode and a write of `v` to the destination `d` (R42, R144, R174). -/
def State.deliver (s : State) (more : List RegWrite) (d : Dst) (v : DWord) (draws : Bool) : State :=
  (((s.writeAll more).writeAll (d.writes s.par.pairOrder s.pswr v)).decideTransfer
    (d.jump s.par.pairOrder v)).advanceDraws draws

theorem Dst.targets_nodup (d : Dst) : d.targets.Nodup := by
  cases d <;> simp [Dst.targets]

/-- A mode writes at most AR[i], so it meets the destination only there. -/
theorem nodup_modeWrite_targets {i : RegIx} {newA : Option Word} {d : Dst}
    (h : modeWrite i newA = [] ∨ .ar i ∉ d.targets) : ((modeWrite i newA).map RegWrite.reg ++ d.targets).Nodup := by
  cases newA with
  | none => simpa [modeWrite] using d.targets_nodup
  | some v =>
    have hi : Target.ar i ∉ d.targets := by simpa [modeWrite] using h
    simpa [modeWrite, RegWrite.of, hi] using d.targets_nodup

/-- A row that writes `v` to `d` without a memory access (R171, R175). -/
theorem exec_planWrite {t : Instr} {s : State} {d : Dst} {v : DWord} {dr touches : Bool} (ht : t.isTransfer = true)
    (hp : PAllowed (parallelOf t) s) (hplan : transferPart t s = s.guardDma touches (planWrite d v dr s))
    (hdma : DmaAllowed touches s) (hpend : d.transfers = true → s.pending = none) :
    exec t s = .next (s.deliver [] d v dr) := by
  rw [State.guardDma_of_allowed hdma] at hplan
  rw [exec_of_plan ht hp hplan]
  refine commit_eq_next.2 ⟨collides_nullOp.2 ?_, ?_, ?_⟩
  · simpa [planWrite, Plan.targets] using d.targets_nodup
  · simpa [planWrite, Plan.transfers] using hpend
  · exact (State.finish_nullOp _ _ _ _).symm

/-- A load row (R145, R147). -/
theorem exec_load {t : Instr} {s : State} {d : Dst} {a : Word} {i : RegIx} {newA : Option Word} (ht : t.isTransfer = true)
    (hp : PAllowed (parallelOf t) s)
    (hplan : transferPart t s = s.guardDma d.touchesDma { access := .load a d, writes := modeWrite i newA })
    (hdma : DmaAllowed d.touchesDma s) (hpend : d.transfers = true → s.pending = none) (ha : Accessible s a d.wide)
    (hmode : modeWrite i newA = [] ∨ .ar i ∉ d.targets) :
    exec t s = .next (s.deliver (modeWrite i newA) d (s.readValue a d.wide) false) := by
  rw [State.guardDma_of_allowed hdma] at hplan
  rw [exec_of_plan ht hp hplan]
  refine commit_eq_next.2 ⟨collides_nullOp.2 (nodup_modeWrite_targets hmode), ?_, ha, ?_⟩
  · simpa [Plan.transfers] using hpend
  · rw [State.finish_nullOp, State.writeAll_append, Option.none_or, State.deliver]

/-- A load of AR[i], alone or in its pair, in a mode that writes AR[i] is refused before memory is accessed (R150). -/
theorem exec_load_of_conflict {t : Instr} {s : State} {d : Dst} {a : Word} {i : RegIx} {newA : Word}
    (ht : t.isTransfer = true) (hp : PAllowed (parallelOf t) s)
    (hplan : transferPart t s = s.guardDma d.touchesDma { access := .load a d, writes := modeWrite i (some newA) })
    (hdma : DmaAllowed d.touchesDma s) (hi : .ar i ∈ d.targets) : exec t s = .refused .writeConflict := by
  rw [State.guardDma_of_allowed hdma] at hplan
  rw [exec_of_plan ht hp hplan, commit, if_pos ((collides_iff _ _).2 (.inl ?_))]
  simp [Plan.targets, modeWrite, RegWrite.of, hi]

/-- A store row (R146, R148): the words of the access, then the mode's register. -/
theorem exec_store {t : Instr} {s : State} {a : Word} {wide : Bool} {v : DWord} {i : RegIx} {newA : Option Word}
    {touches dr : Bool} (ht : t.isTransfer = true) (hp : PAllowed (parallelOf t) s)
    (hplan : transferPart t s =
      s.guardDma touches { access := .store a wide v, writes := modeWrite i newA, draws := dr })
    (hdma : DmaAllowed touches s) (ha : Accessible s a wide) :
    exec t s = .next (((s.writeValue a wide v).writeAll (modeWrite i newA)).advanceDraws dr) := by
  rw [State.guardDma_of_allowed hdma] at hplan
  rw [exec_of_plan ht hp hplan]
  refine commit_eq_next.2 ⟨collides_nullOp.2 ?_, nofun, ha, ?_⟩
  · cases newA <;> simp [Plan.targets, modeWrite]
  · rw [State.finish_nullOp, State.decideTransfer_none]

/-- Without the DMA agent, a row that could start a transfer is refused (R36, R336). -/
theorem exec_of_dma_none {t : Instr} {s : State} {touches : Bool} {plan : Plan} (ht : t.isTransfer = true)
    (hp : PAllowed (parallelOf t) s) (hplan : transferPart t s = s.guardDma touches plan) (htouch : touches = true)
    (hnone : s.par.dmaModel = .none) : exec t s = .refused .dmaAccess := by
  subst htouch
  exact exec_of_refused ht hp (hplan.trans (State.guardDma_of_none hnone))

/-! ### The rows' plans -/

theorem transferPart_ldR {r : RegCode} {d : Dst} (h : dstOf r = some d) (p : Bool) (am : AM) (i : RegIx) (s : State) :
    transferPart (.ldR p am i r) s = s.guardDma d.touchesDma
      { access := .load (amAddress am (s.readAr i) (s.readGr i) (stepOf d.wide)) d
        writes := modeWrite i (amUpdate am (s.readAr i) (s.readGr i) (stepOf d.wide)) } := by
  simp only [transferPart, planLdR, h]

theorem transferPart_ldI {r : RegCode} {d : Dst} (h : dstOf r = some d) (p : Bool) (amc : AMC) (i : RegIx) (k : Word)
    (s : State) :
    transferPart (.ldI p amc i r k) s = s.guardDma d.touchesDma
      { access := .load (amcAddress amc (s.readAr i) k) d, writes := modeWrite i (amcUpdate amc (s.readAr i) k) } := by
  simp only [transferPart, planLdI, h]

theorem transferPart_stR {r : RegCode} {x : Src} (h : srcOf r = some x) (p : Bool) (am : AM) (i : RegIx) (s : State) :
    transferPart (.stR p am i r) s = s.guardDma x.touchesDma
      { access := .store (amAddress am (s.readAr i) (s.readGr i) (stepOf x.wide)) x.wide (s.readSrc x)
        writes := modeWrite i (amUpdate am (s.readAr i) (s.readGr i) (stepOf x.wide)), draws := s.takesDraw x } := by
  simp only [transferPart, planStR, h]

theorem transferPart_stI {r : RegCode} {x : Src} (h : srcOf r = some x) (p : Bool) (amc : AMC) (i : RegIx) (k : Word)
    (s : State) :
    transferPart (.stI p amc i r k) s = s.guardDma x.touchesDma
      { access := .store (amcAddress amc (s.readAr i) k) x.wide (s.readSrc x)
        writes := modeWrite i (amcUpdate amc (s.readAr i) k), draws := s.takesDraw x } := by
  simp only [transferPart, planStI, h]

theorem transferPart_mov {rd rs : RegCode} {d : Dst} {x : Src} (hd : dstOf rd = some d) (hx : srcOf rs = some x)
    (p : Bool) (s : State) :
    transferPart (.mov p rd rs) s =
      if x.wide = d.wide then
        s.guardDma (x.touchesDma || d.touchesDma) (planWrite d (s.readSrc x) (s.takesDraw x) s)
      else .refused .moveWidth := by
  simp only [transferPart, planMov, hd, hx, beq_iff_eq]

theorem transferPart_ldc {r : RegCode} {d : Dst} (h : dstOf r = some d) (p : Bool) (k : Word) (s : State) :
    transferPart (.ldc p r k) s =
      if d.wide then .refused .constantWidth else s.guardDma d.touchesDma (planWrite d (k.zeroExtend 64) false s) := by
  simp only [transferPart, planLdc, h]

/-- MOV between codes of one width (R171). -/
theorem exec_mov {p : Bool} {rd rs : RegCode} {d : Dst} {x : Src} {s : State} (hp : PAllowed p s)
    (hd : dstOf rd = some d) (hx : srcOf rs = some x) (hwide : x.wide = d.wide)
    (hdma : DmaAllowed (x.touchesDma || d.touchesDma) s) (hpend : d.transfers = true → s.pending = none) :
    exec (.mov p rd rs) s = .next (s.deliver [] d (s.readSrc x) (s.takesDraw x)) :=
  exec_planWrite rfl hp ((transferPart_mov hd hx p s).trans (if_pos hwide)) hdma hpend

/-- MOV of a DMA register that could start a transfer, without the DMA agent (R36, R336). -/
theorem exec_mov_of_dma_none {p : Bool} {rd rs : RegCode} {d : Dst} {x : Src} {s : State} (hp : PAllowed p s)
    (hd : dstOf rd = some d) (hx : srcOf rs = some x) (hwide : x.wide = d.wide)
    (htouch : x.touchesDma = true ∨ d.touchesDma = true) (hnone : s.par.dmaModel = .none) :
    exec (.mov p rd rs) s = .refused .dmaAccess :=
  exec_of_dma_none rfl hp ((transferPart_mov hd hx p s).trans (if_pos hwide)) ((Bool.or_eq_true_iff.2 htouch)) hnone

end Sys2Proof.Machine
end

section
/-!
What register writes leave in each register, and from it what every transfer row that writes a destination leaves
(`TransferWrites`): the legal destinations of loads, moves and constants (R42, R125 point 7).
-/

namespace Sys2Proof.Machine

/-! ### Register writes, register by register -/

/-- A register write whose value fits the register: DORn takes 64 bits, every other register 32 (R7, R35). -/
def RegWrite.Fits (w : RegWrite) : Prop := (∃ c, w.reg = .dor c) ∨ ∃ v, w = RegWrite.of w.reg v

theorem RegWrite.fits_of (r : Target) (v : Word) : (RegWrite.of r v).Fits := .inr ⟨v, rfl⟩

theorem Dst.writes_fit (o : PairOrder) (pswr : Word) (d : Dst) (v : DWord) : ∀ w ∈ d.writes o pswr v, w.Fits := by
  cases d with
  | dor c => simpa [Dst.writes] using .inl ⟨c, rfl⟩
  | _ => simp [Dst.writes, RegWrite.fits_of]

theorem modeWrite_fits (i : RegIx) (newA : Option Word) : ∀ w ∈ modeWrite i newA, w.Fits := by
  cases newA <;> simp [modeWrite, RegWrite.fits_of]

/-- A register reads back what a write of it that fits has written. -/
theorem State.regValue_write_self (s : State) {w : RegWrite} (h : w.Fits) : (s.write w).regValue w.reg = w.value := by
  obtain ⟨r, v⟩ := w
  rcases h with ⟨c, rfl⟩ | ⟨x, e⟩
  · simp [State.write, State.regValue]
  · rw [e]
    cases r <;> simp [RegWrite.of, State.regValue] <;> simp [State.write]

theorem Channel.get_dor (ch : Channel) (r : DmaReg) (v : DWord) : ({ ch with dor := v } : Channel).get r = ch.get r := by
  cases r <;> rfl

theorem Channel.set_dor (ch : Channel) (r : DmaReg) (v : Word) : (ch.set r v).dor = ch.dor := by
  cases r <;> rfl

theorem Channel.set_dir (ch : Channel) (r : DmaReg) (v : Word) : (ch.set r v).dir = ch.dir := by
  cases r <;> rfl

/-- What every channel shows of a channel's update, told by a reading `f` that the update leaves alone there. -/
theorem State.channel_setChannel_of_eq {α : Type} (f : Channel → α) (s : State) (c e : Fin 2) (ch : Channel)
    (h : c = e → f ch = f (s.channel c)) : f ((s.setChannel c ch).channel e) = f (s.channel e) := by
  by_cases hc : c = e
  · subst hc
    rw [State.channel_setChannel_self, h rfl]
  · rw [State.channel_setChannel_ne s ch hc]

/-- A write changes the register it names only. -/
theorem State.regValue_write_ne (s : State) {w : RegWrite} {r : Target} (h : r ≠ w.reg) :
    (s.write w).regValue r = s.regValue r := by
  obtain ⟨q, v⟩ := w
  cases q with
  | gr i =>
    cases r with
    | gr j => exact congrArg (BitVec.zeroExtend 64) (State.readGr_setGr_ne s _ fun e => h (congrArg Target.gr e.symm))
    | timer t => cases t <;> rfl
    | _ => rfl
  | ar i =>
    cases r with
    | ar j => exact congrArg (BitVec.zeroExtend 64) (State.readAr_setAr_ne s _ fun e => h (congrArg Target.ar e.symm))
    | timer t => cases t <;> rfl
    | _ => rfl
  | pswr =>
    cases r with
    | pswr => exact absurd rfl h
    | timer t => cases t <;> rfl
    | _ => rfl
  | timer t =>
    cases r with
    | timer u => exact congrArg (BitVec.zeroExtend 64) (State.timer_setTimer_ne s _ fun e => h (congrArg Target.timer e.symm))
    | _ => cases t <;> rfl
  | dma q c =>
    cases r with
    | dma r e =>
      refine congrArg (BitVec.zeroExtend 64)
        (State.channel_setChannel_of_eq (fun ch => ch.get r) s c e _ fun hc => ?_)
      exact Channel.get_set_ne _ _ fun hr => h (by rw [hr, hc])
    | dor e => exact State.channel_setChannel_of_eq Channel.dor s c e _ fun _ => Channel.set_dor _ _ _
    | timer t => cases t <;> rfl
    | _ => rfl
  | dor c =>
    cases r with
    | dma r e =>
      exact congrArg (BitVec.zeroExtend 64)
        (State.channel_setChannel_of_eq (fun ch => ch.get r) s c e _ fun _ => Channel.get_dor _ _ _)
    | dor e => exact State.channel_setChannel_of_eq Channel.dor s c e _ fun hc => absurd (by rw [hc]) h
    | timer t => cases t <;> rfl
    | _ => rfl

/-- No register write reaches DIRn (R35). -/
theorem State.write_dir (s : State) (w : RegWrite) (c : Fin 2) : ((s.write w).channel c).dir = (s.channel c).dir := by
  obtain ⟨q, v⟩ := w
  cases q with
  | dma q e => exact State.channel_setChannel_of_eq Channel.dir s e c _ fun _ => Channel.set_dir _ _ _
  | dor e => exact State.channel_setChannel_of_eq Channel.dir s e c _ fun _ => rfl
  | timer t => cases t <;> rfl
  | _ => rfl

theorem State.regValue_writeAll_of_not_mem (ws : List RegWrite) (s : State) {r : Target}
    (h : r ∉ ws.map RegWrite.reg) : (s.writeAll ws).regValue r = s.regValue r := by
  induction ws generalizing s with
  | nil => rfl
  | cons w rest ih =>
    simp only [List.map_cons, List.mem_cons, not_or] at h
    rw [State.writeAll_cons, ih _ h.2, State.regValue_write_ne s h.1]

/-- Writes of distinct registers all take effect. -/
theorem State.regValue_writeAll_of_mem (ws : List RegWrite) (s : State) (hnodup : (ws.map RegWrite.reg).Nodup)
    (hfits : ∀ w ∈ ws, w.Fits) : ∀ w ∈ ws, (s.writeAll ws).regValue w.reg = w.value := by
  induction ws generalizing s with
  | nil => nofun
  | cons w rest ih =>
    obtain ⟨hw, hrest⟩ := List.nodup_cons.1 hnodup
    obtain ⟨hwfits, hrestfits⟩ := List.forall_mem_cons.1 hfits
    rw [State.writeAll_cons, List.forall_mem_cons]
    refine ⟨?_, ih _ hrest hrestfits⟩
    rw [State.regValue_writeAll_of_not_mem rest _ hw, State.regValue_write_self s hwfits]

theorem State.writeAll_dir (ws : List RegWrite) (s : State) (c : Fin 2) :
    ((s.writeAll ws).channel c).dir = (s.channel c).dir := by
  induction ws generalizing s with
  | nil => rfl
  | cons w rest ih => rw [State.writeAll_cons, ih, State.write_dir]

/-- Register writes change the registers only. -/
theorem State.writeAll_eq (ws : List RegWrite) (s : State) :
    s.writeAll ws = { s with
      gr := (s.writeAll ws).gr, ar := (s.writeAll ws).ar, pswr := (s.writeAll ws).pswr, t0 := (s.writeAll ws).t0
      t1 := (s.writeAll ws).t1, dma := (s.writeAll ws).dma } := by
  induction ws generalizing s with
  | nil => rfl
  | cons w rest ih =>
    rw [State.writeAll_cons, ih]
    obtain ⟨r, v⟩ := w
    cases r with
    | timer t => cases t <;> rfl
    | _ => rfl

/-! ### Every legal destination -/

/-- A destination that the mode's register is not part of takes the value; what else a transfer row leaves is as it was. -/
theorem transferWrites_deliver {s : State} {more : List RegWrite} {d : Dst} {v : DWord} {dr : Bool}
    (hfits : ∀ w ∈ more, w.Fits) (hnodup : (more.map RegWrite.reg ++ d.targets).Nodup) :
    TransferWrites s (s.deliver more d v dr) d v more := by
  set ws := more ++ d.writes s.par.pairOrder s.pswr v
  have hreg : ws.map RegWrite.reg = more.map RegWrite.reg ++ d.targets := by simp [ws]
  have hdeliver : s.deliver more d v dr =
      ((s.writeAll ws).decideTransfer (d.jump s.par.pairOrder v)).advanceDraws dr := by
    rw [State.deliver, ← State.writeAll_append]
  have hvalue (r : Target) : (s.deliver more d v dr).regValue r = (s.writeAll ws).regValue r := by
    rw [hdeliver]
    cases dr <;> cases d.jump s.par.pairOrder v <;> cases r <;> rfl
  have hdma : (s.deliver more d v dr).dma = (s.writeAll ws).dma := by
    rw [hdeliver, State.advanceDraws_dma, State.decideTransfer_dma]
  refine ⟨fun w hw => ?_, fun r hr => ?_, fun c => ?_, ?_, ?_⟩
  · rw [hvalue]
    refine State.regValue_writeAll_of_mem ws s (hreg ▸ hnodup) (fun w hw => ?_) w ?_
    · exact (List.mem_append.1 hw).elim (hfits w) (Dst.writes_fit _ _ d v w)
    · exact List.mem_append.2 (List.mem_append.1 hw).symm
  · rw [hvalue, State.regValue_writeAll_of_not_mem ws s]
    rw [hreg, List.mem_append, or_comm, ← List.mem_append]
    exact hr
  · rw [State.channel, hdma]
    exact State.writeAll_dir ws s c
  · rw [hdeliver, State.advanceDraws_pending, State.writeAll_eq]
    cases d.jump s.par.pairOrder v <;> rfl
  · rw [hdeliver, State.writeAll_eq]
    cases dr <;> cases d.jump s.par.pairOrder v <;> rfl

theorem State.deliver_draws (s : State) (more : List RegWrite) (d : Dst) (v : DWord) (dr : Bool) :
    (s.deliver more d v dr).draws = if dr then s.draws + 1 else s.draws := by
  rw [State.deliver, ← State.writeAll_append, State.writeAll_eq]
  cases dr <;> cases d.jump s.par.pairOrder v <;> rfl

/-- A row that writes a destination without a mode. -/
theorem transferWrites_deliver_nil (s : State) (d : Dst) (v : DWord) (dr : Bool) :
    TransferWrites s (s.deliver [] d v dr) d v [] :=
  transferWrites_deliver nofun d.targets_nodup

end Sys2Proof.Machine
end

section
/-!
Loads, stores, moves and constant loads over every legal register code and mode (R36, R42, R144 to R150, R170 to R176, R336).
-/

namespace Sys2Proof.Machine

/-! ### The codes of registers and pairs -/

theorem dstOf_codeGr (i : RegIx) : dstOf (codeGr i) = some (.gr i) := by
  revert i
  decide

theorem dstOf_codeAr (i : RegIx) : dstOf (codeAr i) = some (.ar i) := by
  revert i
  decide

theorem dstOf_codePair (i : RegIx) : dstOf (codePair i) = some (.grAr i) := by
  revert i
  decide

theorem srcOf_codeGr (i : RegIx) : srcOf (codeGr i) = some (.gr i) := by
  revert i
  decide

theorem srcOf_codeAr (i : RegIx) : srcOf (codeAr i) = some (.ar i) := by
  revert i
  decide

theorem srcOf_codePair (i : RegIx) : srcOf (codePair i) = some (.grAr i) := by
  revert i
  decide

/-! ### Loads -/

/-- Which modes of Table 5-1 write AR[i] (R144). -/
theorem amUpdate_isSome {am : AM} (hgr : am ≠ .gr) (har : am ≠ .ar) (a g step : Word) :
    ∃ v, amUpdate am a g step = some v := by
  cases am with
  | gr => exact absurd rfl hgr
  | ar => exact absurd rfl har
  | _ => exact ⟨_, rfl⟩

/-- Which modes of Table 5-2 write AR[i] (R144). -/
theorem amcUpdate_isSome {amc : AMC} (h : amc ≠ .absolute) (a k : Word) : ∃ v, amcUpdate amc a k = some v := by
  cases amc with
  | absolute => exact absurd rfl h
  | _ => exact ⟨_, rfl⟩

/-- The destinations that hold AR[i] by their code are AR[i] itself and the pair GRi,ARi (R150). -/
theorem ar_mem_targets_of_code {r : RegCode} {d : Dst} {i : RegIx} (hd : dstOf r = some d)
    (hr : r = codeAr i ∨ r = codePair i) : .ar i ∈ d.targets ∧ d.touchesDma = false := by
  rcases hr with rfl | rfl
  · rw [dstOf_codeAr] at hd
    cases hd
    exact ⟨List.mem_singleton.2 rfl, rfl⟩
  · rw [dstOf_codePair] at hd
    cases hd
    exact ⟨by simp [Dst.targets], rfl⟩

theorem dmaAllowed_false (s : State) : DmaAllowed false s := nofun

/-- A load row leaves what `TransferWrites` says, and takes no free value. -/
theorem exec_load_transferWrites {t : Instr} {s : State} {d : Dst} {a : Word} {i : RegIx} {newA : Option Word}
    (ht : t.isTransfer = true) (hp : PAllowed (parallelOf t) s)
    (hplan : transferPart t s = s.guardDma d.touchesDma { access := .load a d, writes := modeWrite i newA })
    (hdma : DmaAllowed d.touchesDma s) (hpend : d.transfers = true → s.pending = none) (ha : Accessible s a d.wide)
    (hmode : modeWrite i newA = [] ∨ .ar i ∉ d.targets) :
    ∃ u, exec t s = .next u ∧ TransferWrites s u d (s.readValue a d.wide) (modeWrite i newA) ∧ u.draws = s.draws :=
  ⟨_, exec_load ht hp hplan hdma hpend ha hmode,
    transferWrites_deliver (modeWrite_fits i newA) (nodup_modeWrite_targets hmode), State.deliver_draws _ _ _ _ _⟩

/-- Settles O18: every load row is one plan, which completes, meets the mode's register or asks for the DMA agent. -/
theorem loadsReachEveryDestination : Obligations.LoadsReachEveryDestination := by
  intro p i r d s hp hd hpend
  refine ⟨fun hdma am ha hmode => ?_, fun hdma amc k ha hmode => ?_, fun htouch hnone => ⟨fun am => ?_, fun amc k => ?_⟩,
    fun hr => ?_⟩
  · exact exec_load_transferWrites rfl hp (transferPart_ldR hd p am i s) hdma hpend ha hmode
  · exact exec_load_transferWrites rfl hp (transferPart_ldI hd p amc i k s) hdma hpend ha hmode
  · exact exec_of_dma_none rfl hp (transferPart_ldR hd p am i s) htouch hnone
  · exact exec_of_dma_none rfl hp (transferPart_ldI hd p amc i k s) htouch hnone
  · obtain ⟨hi, htouch⟩ := ar_mem_targets_of_code hd hr
    have hdma : DmaAllowed d.touchesDma s := htouch ▸ dmaAllowed_false s
    refine ⟨fun am hgr har => ?_, fun amc k habs => ?_⟩
    · obtain ⟨v, hv⟩ := amUpdate_isSome hgr har (s.readAr i) (s.readGr i) (stepOf d.wide)
      exact exec_load_of_conflict rfl hp (hv ▸ transferPart_ldR hd p am i s) hdma hi
    · obtain ⟨v, hv⟩ := amcUpdate_isSome habs (s.readAr i) k
      exact exec_load_of_conflict rfl hp (hv ▸ transferPart_ldI hd p amc i k s) hdma hi

/-! ### Stores -/

/-- What a store row leaves: its words hold the value, the mode's register its new value, and the rest is as it was. -/
def StoreLeaves (s t : State) (a : Word) (wide : Bool) (v : DWord) (i : RegIx) (newA : Option Word) (dr : Bool) : Prop :=
  (wide = false → t.word a = v.extractLsb' 0 32) ∧
    (wide = true → t.word (evenWord a) = v.extractLsb' 0 32 ∧ t.word (oddWord a) = v.extractLsb' 32 32) ∧
    (∀ b, b ∉ storedWords a wide → t.word b = s.word b) ∧
    t.readAr i = newA.getD (s.readAr i) ∧ (∀ j, j ≠ i → t.readAr j = s.readAr j) ∧
    t = { s with ar := t.ar, mem := t.mem, stored := t.stored, draws := if dr then s.draws + 1 else s.draws }

theorem storeLeaves (s : State) (a : Word) (wide : Bool) (v : DWord) (i : RegIx) (newA : Option Word) (dr : Bool) :
    StoreLeaves s (((s.writeValue a wide v).writeAll (modeWrite i newA)).advanceDraws dr) a wide v i newA dr := by
  set t := ((s.writeValue a wide v).writeAll (modeWrite i newA)).advanceDraws dr
  have hword (b : Word) : t.word b = (s.writeValue a wide v).word b := by
    cases newA <;> cases dr <;> rfl
  have hread (j : RegIx) : t.readAr j = (s.writeAll (modeWrite i newA)).readAr j := by
    cases newA <;> cases dr <;> cases wide <;> rfl
  refine ⟨?_, ?_, fun b hb => ?_, ?_, fun j hj => ?_, ?_⟩
  · rintro rfl
    rw [hword, State.word_writeValue_narrow, if_pos rfl]
  · rintro rfl
    simp only [hword, State.word_writeValue_wide, evenWord_ne_oddWord, if_true, if_false, and_self]
  · rw [hword, State.word_writeValue_of_not_mem s v hb]
  · rw [hread]
    cases newA <;> simp [modeWrite]
  · rw [hread, State.writeAll_ar_of_not_mem]
    cases newA <;> simp [modeWrite, RegWrite.of, hj]
  · cases newA <;> cases dr <;> cases wide <;> rfl

/-- Settles O19: every store row is one plan, which completes or asks for the DMA agent. -/
theorem storesFromEverySource : Obligations.StoresFromEverySource := by
  intro p i r x s hp hx
  refine ⟨fun hdma am ha => ?_, fun hdma amc k ha => ?_, fun htouch hnone => ⟨fun am => ?_, fun amc k => ?_⟩⟩
  · exact ⟨_, exec_store rfl hp (transferPart_stR hx p am i s) hdma ha, storeLeaves _ _ _ _ _ _ _⟩
  · exact ⟨_, exec_store rfl hp (transferPart_stI hx p amc i k s) hdma ha, storeLeaves _ _ _ _ _ _ _⟩
  · exact exec_of_dma_none rfl hp (transferPart_stR hx p am i s) htouch hnone
  · exact exec_of_dma_none rfl hp (transferPart_stI hx p amc i k s) htouch hnone

/-! ### Moves and constants -/

/-- Settles O21: a move between codes of one width writes the value, and other widths are refused before anything is read. -/
theorem moveReachesEveryDestination : Obligations.MoveReachesEveryDestination := by
  intro p rd rs d x s hp hd hx
  refine ⟨fun hwide hdma hpend => ?_, fun hwide htouch hnone => ?_, fun hwide => ?_⟩
  · exact ⟨_, exec_mov hp hd hx hwide hdma hpend, transferWrites_deliver_nil _ _ _ _, State.deliver_draws _ _ _ _ _⟩
  · exact exec_mov_of_dma_none hp hd hx hwide htouch hnone
  · exact exec_of_refused rfl hp ((transferPart_mov hd hx p s).trans (if_neg hwide))

/-- Settles O26: LDC is a move of its constant, and a 64-bit code is refused. -/
theorem constantsReachEveryDestination : Obligations.ConstantsReachEveryDestination := by
  intro p r d k s hp hd
  have narrow (hwide : d.wide = false) := (transferPart_ldc hd p k s).trans (if_neg (by simp [hwide]))
  refine ⟨fun hwide hdma hpend => ?_, fun hwide htouch hnone => ?_, fun hwide => ?_⟩
  · exact ⟨_, exec_planWrite rfl hp (narrow hwide) hdma hpend, transferWrites_deliver_nil _ _ _ _,
      State.deliver_draws _ _ _ _ _⟩
  · exact exec_of_dma_none rfl hp (narrow hwide) htouch hnone
  · exact exec_of_refused rfl hp ((transferPart_ldc hd p k s).trans (if_pos hwide))

end Sys2Proof.Machine
end

section
/-!
Moves, loads and stores of the registers one by one (R26, R30 to R36, R40 to R43, Tables 5-1 and 5-8). `Reads` says what a
code gives as a source and `Takes` what it does as a destination, so that a move is one of each.
-/

namespace Sys2Proof.Machine

/-! ### Loads of general registers and pairs -/

theorem State.writeAll_modeWrite (s : State) (i : RegIx) (newA : Option Word) :
    s.writeAll (modeWrite i newA) = newA.elim s (s.setAr i) := by
  cases newA
  · rfl
  · exact State.write_ar _ _ _

theorem State.readValue_narrow (s : State) (a : Word) : s.readValue a false = (s.word a).zeroExtend 64 := rfl

/-- LD.R of a general register: the word at the mode's address, and the mode's write of AR[i] (R145). -/
theorem exec_ldR_gr {p : Bool} {s : State} (hp : PAllowed p s) (am : AM) (i j : RegIx)
    (ha : Accessible s (amAddress am (s.readAr i) (s.readGr i) 1#32) false) :
    exec (.ldR p am i (codeGr j)) s =
      .next (((amUpdate am (s.readAr i) (s.readGr i) 1#32).elim s (s.setAr i)).setGr j
        (s.word (amAddress am (s.readAr i) (s.readGr i) 1#32))) := by
  refine (exec_load (t := .ldR p am i (codeGr j)) rfl hp (transferPart_ldR (dstOf_codeGr j) p am i s)
    (dmaAllowed_false s) nofun ha (.inr (by simp [Dst.targets]))).trans (congrArg _ ?_)
  rw [State.deliver, State.writeAll_modeWrite]
  simp [Dst.writes, Dst.jump, Dst.wide, stepOf, State.readValue_narrow, -BitVec.truncate_eq_setWidth]

/-- Settles O15: one mode of Table 5-1 after the other. -/
theorem loadsIntoGeneralRegisters : Obligations.LoadsIntoGeneralRegisters := by
  intro p i j s hp
  exact ⟨exec_ldR_gr hp .gr i j, exec_ldR_gr hp .preAddGr i j, exec_ldR_gr hp .loadGr i j, exec_ldR_gr hp .ar i j,
    exec_ldR_gr hp .postAddGr i j, exec_ldR_gr hp .preDec i j, exec_ldR_gr hp .postInc i j⟩

theorem State.setAr_comm (s : State) {i j : RegIx} (x y : Word) (h : i ≠ j) :
    (s.setAr i x).setAr j y = (s.setAr j y).setAr i x := by
  have hval : i.val ≠ j.val := fun e => h (Fin.ext e)
  simp only [State.setAr, Vector.set_comm _ _ hval]

/-- The pair GRj,ARj loaded from the 64-bit word at `a` (R43, R63). -/
def State.loadPair (s : State) (j : RegIx) (a : Word) : State :=
  (s.setGr j (pairFirst s.par.pairOrder (s.readValue a true))).setAr j (pairSecond s.par.pairOrder (s.readValue a true))

theorem State.loadPair_eq (s : State) (j : RegIx) (a : Word) :
    s.loadPair j a =
      if s.par.pairOrder = .firstHigh then (s.setGr j (s.word (a ||| 1#32))).setAr j (s.word (a &&& 0xFFFFFFFE#32))
      else (s.setGr j (s.word (a &&& 0xFFFFFFFE#32))).setAr j (s.word (a ||| 1#32)) := by
  have hvalue : s.readValue a true = pairValue .firstHigh (s.word (a ||| 1#32)) (s.word (a &&& 0xFFFFFFFE#32)) := rfl
  have hswap : s.readValue a true = pairValue .firstLow (s.word (a &&& 0xFFFFFFFE#32)) (s.word (a ||| 1#32)) := rfl
  rw [State.loadPair]
  cases s.par.pairOrder
  · rw [hvalue, pairFirst_pairValue, pairSecond_pairValue, if_pos rfl]
  · rw [hswap, pairFirst_pairValue, pairSecond_pairValue, if_neg (by decide)]

/-- LD.R of a pair whose address register the mode does not write (R145, R150). -/
theorem exec_ldR_pair {p : Bool} {s : State} (hp : PAllowed p s) (am : AM) (i j : RegIx)
    (h : amUpdate am (s.readAr i) (s.readGr i) 2#32 = none ∨ i ≠ j)
    (ha : Accessible s (amAddress am (s.readAr i) (s.readGr i) 2#32) true) :
    exec (.ldR p am i (codePair j)) s =
      .next (let t := s.loadPair j (amAddress am (s.readAr i) (s.readGr i) 2#32)
        (amUpdate am (s.readAr i) (s.readGr i) 2#32).elim t (t.setAr i)) := by
  have hmode : modeWrite i (amUpdate am (s.readAr i) (s.readGr i) 2#32) = [] ∨ .ar i ∉ (Dst.grAr j).targets :=
    h.imp (fun hu => by rw [hu, modeWrite]) (fun hij => by simp [Dst.targets, hij])
  refine (exec_load (t := .ldR p am i (codePair j)) rfl hp (transferPart_ldR (dstOf_codePair j) p am i s)
    (dmaAllowed_false s) nofun ha hmode).trans (congrArg _ ?_)
  rw [State.deliver, State.writeAll_modeWrite]
  simp only [Dst.writes, Dst.jump, Dst.wide, stepOf, State.writeAll_cons, State.write_gr, State.write_ar,
    State.writeAll_nil, State.decideTransfer_none, State.advanceDraws_false, if_true]
  cases hu : amUpdate am (s.readAr i) (s.readGr i) 2#32 with
  | none => rfl
  | some v => exact State.setAr_comm (s.setGr j _) v _ (h.resolve_left (by simp [hu]))

/-- Settles O17: the three modes, and the write conflict of R150. -/
theorem loadsIntoRegisterPairs : Obligations.LoadsIntoRegisterPairs := by
  intro p i j s hp
  simp only [← State.loadPair_eq]
  refine ⟨exec_ldR_pair hp .ar i j (.inl rfl), fun ha hij => exec_ldR_pair hp .postInc i j (.inr hij) ha,
    fun ha hij => exec_ldR_pair hp .preDec i j (.inr hij) ha, ?_⟩
  rintro rfl
  have conflict {am : AM} {v : Word} (hu : amUpdate am (s.readAr i) (s.readGr i) 2#32 = some v) :
      exec (.ldR p am i (codePair i)) s = .refused .writeConflict :=
    exec_load_of_conflict (t := .ldR p am i (codePair i)) (d := .grAr i) rfl hp
      (hu ▸ transferPart_ldR (dstOf_codePair i) p am i s) (dmaAllowed_false s) (by simp [Dst.targets])
  exact ⟨conflict rfl, conflict rfl⟩

/-! ### Codes as sources -/

/-- The code `r` can be read, and gives the value `v` of its width; `dr` says whether a free value is taken (R40, R41). -/
def Reads (s : State) (r : RegCode) (wide : Bool) (v : DWord) (dr : Bool) : Prop :=
  ∃ x, srcOf r = some x ∧ x.wide = wide ∧ DmaAllowed x.touchesDma s ∧ s.readSrc x = v ∧ s.takesDraw x = dr

/-- The 32-bit sources but the timers and INTR (R20, R22, R26, R30, R35, R36). -/
theorem reads_words (s : State) (i : RegIx) :
    ∀ e ∈ [(codeAr i, s.readAr i), (codeGr i, s.readGr i), (0b011111#6, s.pswr),
        (0b001111#6, s.pc + 2#32 * s.par.pcReadAhead), (0b001000#6, (s.channel 0).oca),
        (0b001001#6, (s.channel 0).ica), (0b001010#6, (s.channel 1).oca), (0b001011#6, (s.channel 1).ica),
        (0b011000#6, (s.channel 0).occ), (0b011001#6, (s.channel 0).icc), (0b011010#6, (s.channel 1).occ),
        (0b011011#6, (s.channel 1).icc)],
      Reads s e.1 false (e.2.zeroExtend 64) false := by
  have read {r : RegCode} (x : Src) (hx : srcOf r = some x) (hwide : x.wide = false) (hdma : x.touchesDma = false)
      (hdr : s.takesDraw x = false) : Reads s r false (s.readSrc x) false :=
    ⟨x, hx, hwide, hdma ▸ dmaAllowed_false s, rfl, hdr⟩
  simp only [List.forall_mem_cons]
  exact ⟨read (.ar i) (srcOf_codeAr i) rfl rfl rfl, read (.gr i) (srcOf_codeGr i) rfl rfl rfl,
    read .pswr rfl rfl rfl rfl, read .pc rfl rfl rfl rfl, read (.dma .oca 0) rfl rfl rfl rfl,
    read (.dma .ica 0) rfl rfl rfl rfl, read (.dma .oca 1) rfl rfl rfl rfl, read (.dma .ica 1) rfl rfl rfl rfl,
    read (.dma .occ 0) rfl rfl rfl rfl, read (.dma .icc 0) rfl rfl rfl rfl, read (.dma .occ 1) rfl rfl rfl rfl,
    read (.dma .icc 1) rfl rfl rfl rfl, List.forall_mem_nil _⟩

/-- The 64-bit sources but the timers and DIRn (R43). -/
theorem reads_pairs (s : State) (j : RegIx) :
    ∀ e ∈ [(codePair j, s.readGr j, s.readAr j), (0b101111#6, s.pswr, s.pc + 2#32 * s.par.pcReadAhead),
        (0b101000#6, (s.channel 0).occ, (s.channel 0).oca), (0b101001#6, (s.channel 0).icc, (s.channel 0).ica),
        (0b101010#6, (s.channel 1).occ, (s.channel 1).oca), (0b101011#6, (s.channel 1).icc, (s.channel 1).ica)],
      Reads s e.1 true (pairValue s.par.pairOrder e.2.1 e.2.2) false := by
  have read {r : RegCode} (x : Src) (hx : srcOf r = some x) (hwide : x.wide = true) (hdma : x.touchesDma = false)
      (hdr : s.takesDraw x = false) : Reads s r true (s.readSrc x) false :=
    ⟨x, hx, hwide, hdma ▸ dmaAllowed_false s, rfl, hdr⟩
  simp only [List.forall_mem_cons]
  exact ⟨read (.grAr j) (srcOf_codePair j) rfl rfl rfl, read .pswrPc rfl rfl rfl rfl, read (.occOca 0) rfl rfl rfl rfl,
    read (.iccIca 0) rfl rfl rfl rfl, read (.occOca 1) rfl rfl rfl rfl, read (.iccIca 1) rfl rfl rfl rfl,
    List.forall_mem_nil _⟩

theorem reads_pair (s : State) (j : RegIx) :
    Reads s (codePair j) true (pairValue s.par.pairOrder (s.readGr j) (s.readAr j)) false :=
  reads_pairs s j (codePair j, s.readGr j, s.readAr j) (by simp)

/-- A timer that is a counter reads as what it holds (R330; log 26). -/
theorem State.timerRead_counters {s : State} {c0 c1 : TimerCounter} (h : s.par.timerModel = .counters c0 c1) (t : Timer) :
    s.timerRead t = s.timer t := by
  rw [State.timerRead, h]
  rfl

theorem reads_timer (s : State) {r : RegCode} {t : Timer} (hr : srcOf r = some (.timer t)) :
    Reads s r false ((s.timerRead t).zeroExtend 64) (timersFree s.par.timerModel) :=
  ⟨_, hr, rfl, dmaAllowed_false s, rfl, rfl⟩

theorem reads_timers (s : State) :
    Reads s 0b101100#6 true (pairValue s.par.pairOrder (s.timerRead .t1) (s.timerRead .t0))
      (timersFree s.par.timerModel) :=
  ⟨.timers, rfl, rfl, dmaAllowed_false s, rfl, rfl⟩

/-- DIRn can be read where there is a DMA agent (R36, R336). -/
theorem reads_dir {s : State} (h : s.par.dmaModel = .agent) :
    ∀ e ∈ [(0b101101#6, (0 : Fin 2)), (0b101110#6, 1)], Reads s e.1 true (s.channel e.2).dir false := by
  simp only [List.forall_mem_cons]
  exact ⟨⟨.dir 0, rfl, rfl, fun _ => h, rfl, rfl⟩, ⟨.dir 1, rfl, rfl, fun _ => h, rfl, rfl⟩, List.forall_mem_nil _⟩

/-! ### Stores at an absolute address -/

theorem State.writeValue_word (s : State) (a v : Word) : s.writeValue a false (v.zeroExtend 64) = s.setWord a v := by
  rw [State.writeValue, if_neg (by decide), low_zeroExtend]

/-- A pair stored: its first register in the odd word or in the even word, by PAIR_ORDER (R43, R64). -/
theorem State.writeValue_pair (s : State) (a x y : Word) :
    s.writeValue a true (pairValue s.par.pairOrder x y) =
      if s.par.pairOrder = .firstHigh then (s.setWord (a &&& 0xFFFFFFFE#32) y).setWord (a ||| 1#32) x
      else (s.setWord (a &&& 0xFFFFFFFE#32) x).setWord (a ||| 1#32) y := by
  have halves (x y : Word) : s.writeValue a true (x ++ y) = (s.setWord (evenWord a) y).setWord (oddWord a) x := by
    rw [State.writeValue, if_pos rfl, BitVec.extractLsb'_append_eq_left, BitVec.extractLsb'_append_eq_right]
  cases s.par.pairOrder
  · exact halves x y
  · exact halves y x

theorem exec_stI_of_reads {p wide dr : Bool} {s : State} {r : RegCode} {v : DWord} {k : Word} (hp : PAllowed p s)
    (i : RegIx) (hr : Reads s r wide v dr) (ha : Accessible s k wide) :
    exec (.stI p .absolute i r k) s = .next ((s.writeValue k wide v).advanceDraws dr) := by
  obtain ⟨x, hx, rfl, hdma, rfl, rfl⟩ := hr
  exact exec_store (t := .stI p .absolute i r k) rfl hp (transferPart_stI hx p .absolute i k s) hdma ha

/-- Settles O20: what each code reads, stored at the constant address. -/
theorem storedValuesAreTheRegisters : Obligations.StoredValuesAreTheRegisters := by
  intro p i j k s hp
  refine ⟨fun ha => ?_, fun ha => ?_⟩
  · have store {r : RegCode} {v : Word} (hr : Reads s r false (v.zeroExtend 64) false) :
        exec (.stI p .absolute i r k) s = .next (s.setWord k v) := by
      rw [exec_stI_of_reads hp i hr ha, State.writeValue_word, State.advanceDraws_false]
    have words := reads_words s j
    exact ⟨store (words (codeGr j, s.readGr j) (by simp)), store (words (codeAr j, s.readAr j) (by simp)),
      store (words (_, s.pswr) (by simp)), store (words (_, s.pc + 2#32 * s.par.pcReadAhead) (by simp)),
      store (words (0b001011#6, (s.channel 1).ica) (by simp))⟩
  · simp only [← State.writeValue_pair]
    refine ⟨fun code first second he => exec_stI_of_reads hp i (reads_pairs s j _ he) ha, fun c0 c1 hs => ?_,
      fun hs => ⟨s.timerRead .t1, s.timerRead .t0, ?_⟩, fun hs code c he => exec_stI_of_reads hp i (reads_dir hs _ he) ha⟩
    · have hread := reads_timers s
      rw [State.timerRead_counters hs, State.timerRead_counters hs, hs] at hread
      exact exec_stI_of_reads hp i hread ha
    · have hread := reads_timers s
      rw [hs] at hread
      exact exec_stI_of_reads hp i hread ha

/-! ### Codes as destinations -/

/-- The code `r` names a destination of the width that `v` has, and `t` is `s` with `v` written to it (R40, R42); `touches`
says whether the write could start a DMA transfer (R36). -/
def Takes (s : State) (r : RegCode) (wide : Bool) (v : DWord) (touches : Bool) (t : State) : Prop :=
  ∃ d, dstOf r = some d ∧ d.wide = wide ∧ d.touchesDma = touches ∧ (d.transfers = true → s.pending = none) ∧
    s.deliver [] d v false = t

/-- A move is a read of its source and a write of its destination (R171). -/
theorem exec_mov_of_reads_takes {p wide touches dr : Bool} {s t : State} {rd rs : RegCode} {v : DWord} (hp : PAllowed p s)
    (hr : Reads s rs wide v dr) (ht : Takes s rd wide v touches t) (hdma : DmaAllowed touches s) :
    exec (.mov p rd rs) s = .next (t.advanceDraws dr) := by
  obtain ⟨x, hx, rfl, hxdma, rfl, rfl⟩ := hr
  obtain ⟨d, hd, hwide, rfl, hpend, rfl⟩ := ht
  refine exec_mov hp hd hx hwide.symm (fun h => ?_) hpend
  exact ((Bool.or_eq_true_iff).1 h).elim hxdma hdma

theorem exec_mov_of_takes_dma {p wide dr : Bool} {s t : State} {rd rs : RegCode} {v : DWord} (hp : PAllowed p s)
    (hr : Reads s rs wide v dr) (ht : Takes s rd wide v true t) (hnone : s.par.dmaModel = .none) :
    exec (.mov p rd rs) s = .refused .dmaAccess := by
  obtain ⟨x, hx, rfl, -, -, -⟩ := hr
  obtain ⟨d, hd, hwide, htouch, -, -⟩ := ht
  exact exec_mov_of_dma_none hp hd hx hwide.symm (.inr htouch) hnone

theorem Dst.jump_eq_none {d : Dst} (h : d.transfers = false) (o : PairOrder) (v : DWord) : d.jump o v = none := by
  rw [← Option.not_isSome_iff_eq_none, Dst.jump_isSome, h]
  decide

/-- A destination without PC takes its register writes at once. -/
theorem takes_of_writes {s t : State} {r : RegCode} {d : Dst} {v : DWord} (hd : dstOf r = some d)
    (hpc : d.transfers = false) (ht : s.writeAll (d.writes s.par.pairOrder s.pswr v) = t) :
    Takes s r d.wide v d.touchesDma t := by
  refine ⟨d, hd, rfl, rfl, fun h => absurd (hpc.symm.trans h) (by decide), ?_⟩
  rw [State.deliver, Dst.jump_eq_none hpc]
  exact ht

/-- A destination with PC decides a transfer (R174). -/
theorem takes_of_jump {s : State} {r : RegCode} {d : Dst} {v : DWord} {target : Word} (hd : dstOf r = some d)
    (hpend : s.pending = none) (hj : d.jump s.par.pairOrder v = some target) :
    Takes s r d.wide v d.touchesDma ((s.writeAll (d.writes s.par.pairOrder s.pswr v)).jumping target) := by
  refine ⟨d, hd, rfl, rfl, fun _ => hpend, ?_⟩
  rw [State.deliver, hj]
  rfl

section
variable (s : State) (i : RegIx) (v x y : Word) (c : Fin 2)

theorem takes_gr : Takes s (codeGr i) false (v.zeroExtend 64) false (s.setGr i v) :=
  takes_of_writes (d := .gr i) (dstOf_codeGr i) rfl (by simp [Dst.writes])

/-- The 32-bit destinations but PC and the DMA registers (R20, R22, R32, R34). -/
theorem takes_words :
    ∀ e ∈ [(codeAr i, s.setAr i v), (codeGr i, s.setGr i v), (0b011111#6, { s with pswr := v }),
        (0b111101#6, { s with pswr := s.pswr ||| v }), (0b011101#6, { s with pswr := s.pswr &&& ~~~v }),
        (0b001100#6, { s with t0 := v }), (0b011100#6, { s with t1 := v })],
      Takes s e.1 false (v.zeroExtend 64) false e.2 := by
  simp only [List.forall_mem_cons]
  refine ⟨?_, takes_gr s i v, ?_, ?_, ?_, ?_, ?_, List.forall_mem_nil _⟩
  · exact takes_of_writes (d := .ar i) (dstOf_codeAr i) rfl (by simp [Dst.writes])
  · exact takes_of_writes (d := .pswr) rfl rfl (by simp [Dst.writes])
  · exact takes_of_writes (d := .pswrSet) rfl rfl (by simp [Dst.writes])
  · exact takes_of_writes (d := .pswrReset) rfl rfl (by simp [Dst.writes])
  · exact takes_of_writes (d := .timer .t0) rfl rfl (by simp [Dst.writes, State.setTimer])
  · exact takes_of_writes (d := .timer .t1) rfl rfl (by simp [Dst.writes, State.setTimer])

theorem takes_pc (hpend : s.pending = none) : Takes s 0b001111#6 false (v.zeroExtend 64) false (s.jumping v) :=
  takes_of_jump (d := .pc) rfl hpend (congrArg some (low_zeroExtend v))

/-- The 32-bit DMA registers, whose write could start a transfer (R35, R36). -/
theorem takes_dma :
    ∀ e ∈ [(0b001000#6, s.setChannel 0 { s.channel 0 with oca := v }),
        (0b001001#6, s.setChannel 0 { s.channel 0 with ica := v }),
        (0b001010#6, s.setChannel 1 { s.channel 1 with oca := v }),
        (0b001011#6, s.setChannel 1 { s.channel 1 with ica := v }),
        (0b011000#6, s.setChannel 0 { s.channel 0 with occ := v }),
        (0b011001#6, s.setChannel 0 { s.channel 0 with icc := v }),
        (0b011010#6, s.setChannel 1 { s.channel 1 with occ := v }),
        (0b011011#6, s.setChannel 1 { s.channel 1 with icc := v })],
      Takes s e.1 false (v.zeroExtend 64) true e.2 := by
  have take {r : RegCode} (q : DmaReg) (c : Fin 2) (hr : dstOf r = some (.dma q c)) :
      Takes s r false (v.zeroExtend 64) true (s.setChannel c ((s.channel c).set q v)) :=
    takes_of_writes hr rfl (by simp [Dst.writes])
  simp only [List.forall_mem_cons]
  refine ⟨?_, ?_, ?_, ?_, ?_, ?_, ?_, ?_, List.forall_mem_nil _⟩
  · exact take .oca 0 rfl
  · exact take .ica 0 rfl
  · exact take .oca 1 rfl
  · exact take .ica 1 rfl
  · exact take .occ 0 rfl
  · exact take .icc 0 rfl
  · exact take .occ 1 rfl
  · exact take .icc 1 rfl

theorem takes_grAr (v : DWord) :
    Takes s (codePair i) true v false
      ((s.setGr i (pairFirst s.par.pairOrder v)).setAr i (pairSecond s.par.pairOrder v)) :=
  takes_of_writes (d := .grAr i) (dstOf_codePair i) rfl (by simp [Dst.writes])

theorem takes_timers : Takes s 0b101100#6 true (pairValue s.par.pairOrder x y) false { s with t1 := x, t0 := y } :=
  takes_of_writes (d := .timers) rfl rfl (by simp [Dst.writes, State.setTimer])

theorem takes_pswrPc (hpend : s.pending = none) :
    Takes s 0b101111#6 true (pairValue s.par.pairOrder x y) false ({ s with pswr := x }.jumping y) := by
  have h := takes_of_jump (s := s) (r := 0b101111#6) (d := .pswrPc) rfl hpend
    (congrArg some (pairSecond_pairValue s.par.pairOrder x y))
  rwa [Dst.writes, pairFirst_pairValue, State.writeAll_cons, State.write_pswr, State.writeAll_nil] at h

theorem State.setChannel_setChannel (a b : Channel) : (s.setChannel c a).setChannel c b = s.setChannel c b := by
  simp [State.setChannel]

/-- The counter and address pairs of the DMA channels (R35, R43). -/
theorem takes_occOca :
    ∀ e ∈ [(0b101000#6, (0 : Fin 2)), (0b101010#6, 1)],
      Takes s e.1 true (pairValue s.par.pairOrder x y) true
        (s.setChannel e.2 { s.channel e.2 with occ := x, oca := y }) := by
  have take {r : RegCode} (c : Fin 2) (hr : dstOf r = some (.occOca c)) :
      Takes s r true (pairValue s.par.pairOrder x y) true (s.setChannel c { s.channel c with occ := x, oca := y }) :=
    takes_of_writes hr rfl (by simp [Dst.writes, State.setChannel_setChannel, Channel.set])
  simp only [List.forall_mem_cons]
  exact ⟨take 0 rfl, take 1 rfl, List.forall_mem_nil _⟩

theorem takes_iccIca :
    ∀ e ∈ [(0b101001#6, (0 : Fin 2)), (0b101011#6, 1)],
      Takes s e.1 true (pairValue s.par.pairOrder x y) true
        (s.setChannel e.2 { s.channel e.2 with icc := x, ica := y }) := by
  have take {r : RegCode} (c : Fin 2) (hr : dstOf r = some (.iccIca c)) :
      Takes s r true (pairValue s.par.pairOrder x y) true (s.setChannel c { s.channel c with icc := x, ica := y }) :=
    takes_of_writes hr rfl (by simp [Dst.writes, State.setChannel_setChannel, Channel.set])
  simp only [List.forall_mem_cons]
  exact ⟨take 0 rfl, take 1 rfl, List.forall_mem_nil _⟩

theorem takes_dor {r : RegCode} {c : Fin 2} (hr : dstOf r = some (.dor c)) (v : DWord) :
    Takes s r true v true (s.setChannel c { s.channel c with dor := v }) :=
  takes_of_writes hr rfl rfl

end

/-! ### Moves, register by register -/

/-- Settles O22: each source read, and GR[j] written. -/
theorem movesIntoGeneralRegisters : Obligations.MovesIntoGeneralRegisters := by
  intro p i j s hp
  have move {r : RegCode} {v : Word} {dr : Bool} (hr : Reads s r false (v.zeroExtend 64) dr) :
      exec (.mov p (codeGr j) r) s = .next ((s.setGr j v).advanceDraws dr) :=
    exec_mov_of_reads_takes hp hr (takes_gr s j v) (dmaAllowed_false s)
  refine ⟨fun code v he => move (reads_words s i _ he), fun hs code hcode => ?_, fun c0 c1 hs => ?_⟩
  · have timer {t : Timer} (hr : srcOf code = some (.timer t)) := move (reads_timer s hr)
    rw [hs] at timer
    rcases hcode with rfl | rfl
    · exact ⟨_, timer (t := .t0) rfl⟩
    · exact ⟨_, timer (t := .t1) rfl⟩
  · have timer {code : RegCode} {t : Timer} (hr : srcOf code = some (.timer t)) := move (reads_timer s hr)
    simp only [State.timerRead_counters hs] at timer
    rw [hs] at timer
    exact ⟨timer (t := .t0) rfl, timer (t := .t1) rfl⟩

/-- Settles O23: GR[j] read, and each destination written. -/
theorem movesFromGeneralRegisters : Obligations.MovesFromGeneralRegisters := by
  intro p i j s hp
  have hread : Reads s (codeGr j) false ((s.readGr j).zeroExtend 64) false :=
    reads_words s j (codeGr j, s.readGr j) (by simp)
  refine ⟨fun code t he => ?_, fun code t he => ⟨fun hs => ?_, fun hs => ?_⟩, fun hpend => ?_⟩
  · exact exec_mov_of_reads_takes hp hread (takes_words s i _ _ he) (dmaAllowed_false s)
  · exact exec_mov_of_reads_takes hp hread (takes_dma s _ _ he) fun _ => hs
  · exact exec_mov_of_takes_dma hp hread (takes_dma s _ _ he) hs
  · exact exec_mov_of_reads_takes hp hread (takes_pc s _ hpend) (dmaAllowed_false s)

/-- The halves of a 64-bit value that is no pair's, by PAIR_ORDER (R43). -/
theorem setPair_halves (s : State) (i : RegIx) (v : DWord) :
    (s.setGr i (pairFirst s.par.pairOrder v)).setAr i (pairSecond s.par.pairOrder v) =
      if s.par.pairOrder = .firstHigh then (s.setGr i (v.extractLsb' 32 32)).setAr i (v.extractLsb' 0 32)
      else (s.setGr i (v.extractLsb' 0 32)).setAr i (v.extractLsb' 32 32) := by
  cases s.par.pairOrder <;> rfl

/-- A move from DIRn without the DMA agent (R36, R336). -/
theorem exec_mov_of_dir_none {p : Bool} {s : State} {rd rs : RegCode} {d : Dst} {c : Fin 2} (hp : PAllowed p s)
    (hd : dstOf rd = some d) (hwide : d.wide = true) (hx : srcOf rs = some (.dir c)) (hnone : s.par.dmaModel = .none) :
    exec (.mov p rd rs) s = .refused .dmaAccess :=
  exec_mov_of_dma_none hp hd hx hwide.symm (.inl rfl) hnone

/-- A pair moved to each 64-bit DMA destination under DMA_MODEL = agent, and DIR0 to DOR0 (R35, R36). -/
theorem exec_mov_pair_of_agent {p : Bool} {s : State} {j : RegIx} (hp : PAllowed p s) (hs : s.par.dmaModel = .agent) :
    (∀ e ∈ [(0b101000#6, (0 : Fin 2)), (0b101010#6, 1)], exec (.mov p e.1 (codePair j)) s =
        .next (s.setChannel e.2 { s.channel e.2 with occ := s.readGr j, oca := s.readAr j })) ∧
      (∀ e ∈ [(0b101001#6, (0 : Fin 2)), (0b101011#6, 1)], exec (.mov p e.1 (codePair j)) s =
        .next (s.setChannel e.2 { s.channel e.2 with icc := s.readGr j, ica := s.readAr j })) ∧
      exec (.mov p 0b101101#6 0b101101#6) s = .next (s.setChannel 0 { s.channel 0 with dor := (s.channel 0).dir }) ∧
      exec (.mov p 0b101110#6 (codePair j)) s =
        .next (s.setChannel 1 { s.channel 1 with dor := pairValue s.par.pairOrder (s.readGr j) (s.readAr j) }) := by
  have hpair := reads_pair s j
  refine ⟨fun e he => ?_, fun e he => ?_, ?_, ?_⟩
  · exact exec_mov_of_reads_takes hp hpair (takes_occOca s _ _ e he) fun _ => hs
  · exact exec_mov_of_reads_takes hp hpair (takes_iccIca s _ _ e he) fun _ => hs
  · exact exec_mov_of_reads_takes hp (reads_dir hs (_, 0) (by simp)) (takes_dor s rfl _) fun _ => hs
  · exact exec_mov_of_reads_takes hp hpair (takes_dor s rfl _) fun _ => hs

/-- Without the DMA agent each of those moves is refused, and so are those from DIRn (R36, R336). -/
theorem exec_mov_pair_of_dma_none {p : Bool} {s : State} {i j : RegIx} (hp : PAllowed p s)
    (hs : s.par.dmaModel = .none) :
    ∀ row ∈ [Instr.mov p 0b101000#6 (codePair j), .mov p 0b101001#6 (codePair j), .mov p 0b101010#6 (codePair j),
        .mov p 0b101011#6 (codePair j), .mov p 0b101101#6 0b101101#6, .mov p 0b101110#6 (codePair j),
        .mov p (codePair i) 0b101101#6, .mov p (codePair i) 0b101110#6], exec row s = .refused .dmaAccess := by
  have hpair := reads_pair s j
  have occOca := takes_occOca s (s.readGr j) (s.readAr j)
  have iccIca := takes_iccIca s (s.readGr j) (s.readAr j)
  simp only [List.forall_mem_cons]
  refine ⟨?_, ?_, ?_, ?_, ?_, ?_, ?_, ?_, List.forall_mem_nil _⟩
  · exact exec_mov_of_takes_dma hp hpair (occOca (_, 0) (by simp)) hs
  · exact exec_mov_of_takes_dma hp hpair (iccIca (_, 0) (by simp)) hs
  · exact exec_mov_of_takes_dma hp hpair (occOca (_, 1) (by simp)) hs
  · exact exec_mov_of_takes_dma hp hpair (iccIca (_, 1) (by simp)) hs
  · exact exec_mov_of_dir_none (d := .dor 0) (c := 0) hp rfl rfl rfl hs
  · exact exec_mov_of_takes_dma hp hpair (takes_dor s rfl _) hs
  · exact exec_mov_of_dir_none (c := 0) hp (dstOf_codePair i) rfl rfl hs
  · exact exec_mov_of_dir_none (c := 1) hp (dstOf_codePair i) rfl rfl hs

/-- Settles O24: each 64-bit source read into a pair, and a pair written to each 64-bit destination. -/
theorem movesOfPairs : Obligations.MovesOfPairs := by
  intro p i j s hp
  have into {r : RegCode} {x y : Word} {dr : Bool} (hr : Reads s r true (pairValue s.par.pairOrder x y) dr) :
      exec (.mov p (codePair i) r) s = .next (((s.setGr i x).setAr i y).advanceDraws dr) := by
    have h := exec_mov_of_reads_takes hp hr (takes_grAr s i _) (dmaAllowed_false s)
    rwa [pairFirst_pairValue, pairSecond_pairValue] at h
  have timers := into (reads_timers s)
  refine ⟨fun code x y he => into (reads_pairs s j _ he), fun c0 c1 hs => ?_,
    fun hs => ⟨s.timerRead .t1, s.timerRead .t0, ?_⟩, ?_, fun hpend => ?_, fun hs => ⟨fun code c he => ?_, ?_⟩,
    exec_mov_pair_of_dma_none hp⟩
  · rwa [State.timerRead_counters hs, State.timerRead_counters hs, hs] at timers
  · rwa [hs] at timers
  · exact exec_mov_of_reads_takes hp (reads_pair s j) (takes_timers s _ _) (dmaAllowed_false s)
  · exact exec_mov_of_reads_takes hp (reads_pair s j) (takes_pswrPc s _ _ hpend) (dmaAllowed_false s)
  · rw [← setPair_halves]
    exact exec_mov_of_reads_takes hp (reads_dir hs _ he) (takes_grAr s i _) (dmaAllowed_false s)
  · obtain ⟨occOca, iccIca, dor0, dor1⟩ := exec_mov_pair_of_agent (j := j) hp hs
    refine ⟨fun code c => occOca (code, c), fun code c => iccIca (code, c), dor0, dor1.trans ?_⟩
    cases s.par.pairOrder <;> rfl

/-! ### PSWRSET and PSWRRST -/

/-- Settles O27: LDC to PSWRset and to PSWRreset (R177, R178). -/
theorem pswrSetAndResetByMask : Obligations.PswrSetAndResetByMask := by
  intro p k s hp
  have mask {t : Instr} {d : Dst} {x : Word} (ht : t.isTransfer = true) (hpt : PAllowed (parallelOf t) s)
      (hplan : transferPart t s = s.guardDma false (planWrite d (k.zeroExtend 64) false s))
      (hpc : d.transfers = false) (hw : d.writes s.par.pairOrder s.pswr (k.zeroExtend 64) = [RegWrite.of .pswr x]) :
      exec t s = .next { s with pswr := x } := by
    rw [exec_planWrite ht hpt hplan (dmaAllowed_false s) fun h => absurd (hpc.symm.trans h) (by decide), State.deliver,
      Dst.jump_eq_none hpc, hw, State.writeAll_nil, State.writeAll_cons, State.write_pswr]
    rfl
  refine ⟨s.pswr ||| k, s.pswr &&& ~~~k, mask rfl hp rfl rfl ?_, mask rfl hp rfl rfl ?_, fun b hb => ⟨?_, ?_⟩⟩
  · simp [Dst.writes]
  · simp [Dst.writes]
  · rw [BitVec.getLsbD_or, Bool.or_comm]
  · rw [BitVec.getLsbD_and, BitVec.getLsbD_not, Bool.and_comm, decide_eq_true hb, Bool.true_and]

end Sys2Proof.Machine
end

section
/-!
What no instruction touches, and what one can make of the requests and of PSWR (R26, R30, R31, R33, R243, R245, R273, R302).
-/

namespace Sys2Proof.Machine

/-! ### The frame of every instruction -/

/-- An instruction that answers leaves what the other agents, the fetch and moving on own; it can set the request of interrupt
2, if it is arithmetical (R273). -/
theorem exec_frame {i : Instr} {s t : State} (h : exec i s = .next t) :
    t.dmaRequests = s.dmaRequests ∧ t.inputs = s.inputs ∧ t.irqWait = s.irqWait ∧ t.pc = s.pc ∧ t.slot = s.slot ∧
      t.par = s.par ∧
      (t.requests = s.requests ∨ i.arithmetical = true ∧ t.requests = (s.raise .overflow).requests) := by
  obtain ⟨-, plan, o, -, ho, hcommit⟩ := exec_eq_next.1 h
  obtain ⟨-, -, hoverflow⟩ := opPart_writes ho
  obtain ⟨m, ws, j, hm, -, rfl, -⟩ := commit_eq_finish hcommit
  obtain ⟨mem, st, rfl⟩ : ∃ mem st, m = { s with mem := mem, stored := st } := by
    rcases hm with rfl | ⟨a, wide, v, rfl⟩
    · exact ⟨_, _, rfl⟩
    · exact ⟨_, _, State.writeValue_eq s a wide v⟩
  obtain ⟨-, -, hpc, hslot, hdma, hinputs, hwait, hpar⟩ :=
    State.finish_frame { s with mem := mem, stored := st } ws j plan.draws o
  refine ⟨hdma, hinputs, hwait, hpc, hslot, hpar, ?_⟩
  rw [State.finish_eq]
  cases ho : o.overflow
  · exact .inl (by simp [OpEffect.requestsAfter, ho])
  · refine .inr ⟨?_, by simp [OpEffect.requestsAfter, ho, State.raise]⟩
    cases ha : i.arithmetical
    · rw [hoverflow ha] at ho
      cases ho
    · rfl

/-- Settles O9: the frame of every instruction, request by request. -/
theorem instructionsLeaveRequestsAlone : Obligations.InstructionsLeaveRequestsAlone := by
  intro i s t h
  obtain ⟨hdma, hinputs, hwait, hpc, hslot, hpar, hrequests⟩ := exec_frame h
  refine ⟨hdma, hinputs, hwait, hpc, hslot, hpar, fun n hn => ?_, fun hset => ?_, fun ha => ?_⟩
  · rcases hrequests with e | ⟨-, e⟩ <;> rw [State.req_congr e n]
    rw [State.req_raise, decide_eq_false hn, Bool.or_false]
  · rcases hrequests with e | ⟨-, e⟩ <;> rw [State.req_congr e .overflow]
    · exact hset
    · rw [State.req_raise, hset, Bool.true_or]
  · exact hrequests.resolve_right fun ⟨ha', _⟩ => absurd (ha.symm.trans ha') (by decide)

/-! ### The flags in PSWR -/

theorem flagAt_eq (w : Word) (i : Fin 32) : flagAt w i = w.getLsbD i.val := by
  unfold flagAt
  split
  · next h => simp [h]
  · rfl

theorem getLsbD_bitAt (i j : Fin 32) : (1#32 <<< i.val).getLsbD j.val = decide (i = j) := by
  rw [← BitVec.twoPow_eq, BitVec.getLsbD_twoPow, decide_eq_true i.isLt, Bool.true_and, Bool.eq_iff_iff]
  simp [Fin.ext_iff]

theorem getLsbD_withBit (w : Word) (i j : Fin 32) (b : Bool) :
    (withBit w i b).getLsbD j.val = if j = i then b else w.getLsbD j.val := by
  unfold withBit
  by_cases hij : j = i
  · cases b <;> simp only [Bool.false_eq_true, if_true, if_false, BitVec.getLsbD_or, BitVec.getLsbD_and,
      BitVec.getLsbD_not, getLsbD_bitAt, hij, decide_true, Bool.not_true, Bool.and_false, Bool.or_true]
  · cases b <;> simp only [Bool.false_eq_true, if_true, if_false, BitVec.getLsbD_or, BitVec.getLsbD_and,
      BitVec.getLsbD_not, getLsbD_bitAt, hij, Ne.symm hij, j.isLt, decide_true, decide_false, Bool.not_false,
      Bool.and_true, Bool.or_false]

/-- A flag store puts each flag at its place and keeps the other bits (R31). -/
theorem getLsbD_storeFlags (l : PswrLayout) (pswr : Word) (f : Flags) (b : Fin 32) :
    (storeFlags l pswr f).getLsbD b.val =
      if b = l.c then f.c else if b = l.v then f.v else if b = l.z then f.z else if b = l.n then f.n
      else pswr.getLsbD b.val := by
  simp only [storeFlags, getLsbD_withBit]

/-- The four places are distinct, so the flags stored read back (R30). -/
theorem flagsOfPswr_storeFlags (l : PswrLayout) (pswr : Word) (f : Flags) :
    flagsOfPswr l (storeFlags l pswr f) = f := by
  obtain ⟨n, z, v, c, hdistinct⟩ := l
  have hd := hdistinct
  simp only [List.nodup_cons, List.mem_cons, List.not_mem_nil, or_false, not_or] at hd
  obtain ⟨⟨hnz, hnv, hnc⟩, ⟨hzv, hzc⟩, hvc, -⟩ := hd
  simp only [flagsOfPswr, flagAt_eq, getLsbD_storeFlags, hnz, hnv, hnc, hzv, hzc, hvc, if_true, if_false]

/-- Where the transfer part does not write PSWR, an instruction makes of it what its OP part does (R125). -/
theorem exec_pswr {i : Instr} {s t : State} (h : exec i s = .next t) (hw : ¬ WritesReg i.transferOf s .pswr) :
    ∃ o, opPart i s = .next o ∧ t.pswr = o.pswrAfter s.par.pswrLayout s.pswr := by
  obtain ⟨-, plan, o, hplan, ho, hcommit⟩ := exec_eq_next.1 h
  obtain ⟨m, ws, j, hm, htargets, rfl, -⟩ := commit_eq_finish hcommit
  have hpswr : Target.pswr ∉ ws.map RegWrite.reg := fun hmem => hw ⟨plan, hplan, htargets ▸ hmem⟩
  refine ⟨o, ho, ?_⟩
  rw [State.finish_eq]
  dsimp only
  rw [State.writeAll_pswr_of_not_mem ws m hpswr]
  rcases hm with rfl | ⟨a, wide, v, rfl⟩
  · rfl
  · rw [State.writeValue_pswr, State.writeValue_par]

/-- Settles O11: an OP part leaves PSWR or stores the flags. -/
theorem pswrChangesOnlyWhereStoredOrWritten : Obligations.PswrChangesOnlyWhereStoredOrWritten := by
  refine ⟨fun i s t h hw => ?_, flagsOfPswr_storeFlags⟩
  obtain ⟨o, ho, hpswr⟩ := exec_pswr h hw
  obtain ⟨-, hflags, -⟩ := opPart_writes ho
  rw [hpswr, ← hflags, OpEffect.pswrAfter]
  cases o.flags with
  | none => exact ⟨fun _ => rfl, fun _ _ => rfl⟩
  | some f =>
    refine ⟨nofun, fun b hb => ?_⟩
    simp only [List.mem_cons, List.not_mem_nil, or_false, not_or] at hb
    obtain ⟨hn, hz, hv, hc⟩ := hb
    simp only [getLsbD_storeFlags, hn, hz, hv, hc, if_false]

/-! ### INTR -/

/-- The bit that INTR_LAYOUT gives to no interrupt or to one or more: those of the requests that are on (R33). -/
theorem getLsbD_intrBits (l : IntrLayout) (on : Fin 10 → Bool) (b : Fin 32) :
    (intrBits l on).getLsbD b.val = (List.finRange 10).any fun n => on n && decide (l.pos[n.val] = b) := by
  have step (ns : List (Fin 10)) (w : Word) :
      (ns.foldl (fun w n => if on n then w ||| (1#32 <<< (l.pos[n.val]).val) else w) w).getLsbD b.val =
        (w.getLsbD b.val || ns.any fun n => on n && decide (l.pos[n.val] = b)) := by
    induction ns generalizing w with
    | nil => simp
    | cons n rest ih =>
      rw [List.foldl_cons, ih, List.any_cons]
      cases on n
      · rfl
      · rw [if_pos rfl, BitVec.getLsbD_or, getLsbD_bitAt, Bool.true_and, Bool.or_assoc]
  rw [intrBits, step, BitVec.getLsbD_zero, Bool.false_or]

/-- The ten places of INTR_LAYOUT are distinct (R33). -/
theorem IntrLayout.pos_inj (l : IntrLayout) {m n : Fin 10} : l.pos[m.val] = l.pos[n.val] ↔ m = n := by
  rw [← Vector.getElem_toList (by simp), ← Vector.getElem_toList (by simp), l.distinct.getElem_inj_iff, Fin.ext_iff]

/-- At the place of an interrupt stands the request of that interrupt alone. -/
theorem getLsbD_intrBits_pos (l : IntrLayout) (on : Fin 10 → Bool) (n : Fin 10) :
    (intrBits l on).getLsbD (l.pos[n.val]).val = on n := by
  rw [getLsbD_intrBits, Bool.eq_iff_iff, List.any_eq_true]
  simp [IntrLayout.pos_inj]

theorem getLsbD_intrBits_of_not_mem (l : IntrLayout) (on : Fin 10 → Bool) {b : Fin 32} (hb : b ∉ l.pos.toList) :
    (intrBits l on).getLsbD b.val = false := by
  rw [getLsbD_intrBits, List.any_eq_false]
  intro n _ h
  simp only [Bool.and_eq_true, decide_eq_true_eq] at h
  exact hb (h.2 ▸ by simp)

/-- A bit of INTR: a request at its place, a DMA request at a position given to those alone, else a free value (R33). -/
theorem getLsbD_intrWord (s : State) (b : Fin 32) :
    s.intrWord.getLsbD b.val =
      ((intrBits s.par.intrLayout fun n => s.requests.getLsbD n.val).getLsbD b.val ||
        (s.dmaRequests.getLsbD b.val && s.par.intrLayout.dmaMask.getLsbD b.val &&
          !(intrBits s.par.intrLayout fun _ => true).getLsbD b.val) ||
        ((Config.intrUnassigned s.draws).getLsbD b.val && !s.par.intrLayout.dmaMask.getLsbD b.val &&
          !(intrBits s.par.intrLayout fun _ => true).getLsbD b.val)) := by
  simp only [State.intrWord, BitVec.getLsbD_or, BitVec.getLsbD_and, BitVec.getLsbD_not, b.isLt, decide_true,
    Bool.true_and]

/-- Settles O25: INTR is read like any other source, and takes a free value. -/
theorem intrShowsTheRequests : Obligations.IntrShowsTheRequests := by
  intro p j s hp
  have hread : Reads s 0b011110#6 false (s.intrWord.zeroExtend 64) true :=
    ⟨.intr, rfl, rfl, dmaAllowed_false s, rfl, rfl⟩
  refine ⟨s.intrWord, exec_mov_of_reads_takes hp hread (takes_gr s j _) (dmaAllowed_false s), fun n => ?_,
    fun b hb hmask => ?_⟩
  · rw [getLsbD_intrWord]
    simp only [getLsbD_intrBits_pos, Bool.not_true, Bool.and_false, Bool.or_false, State.req]
  · rw [getLsbD_intrWord]
    simp only [getLsbD_intrBits_of_not_mem _ _ hb, hmask, Bool.not_true, Bool.not_false, Bool.and_true, Bool.and_false,
      Bool.false_or, Bool.or_false]

end Sys2Proof.Machine
end

section
/-!
The end of a fetch word and of an instruction (R25, R27, R126, R212, R318), and the state after reset (R39, R45, R351).
-/

namespace Sys2Proof.Machine

/-! ### The end of a fetch word -/

theorem State.nextWord_of_none {s : State} (h : s.pending = none) :
    s.nextWord = { s with slot := false, pc := s.pc + 2#32 } := by
  rw [State.nextWord, h]

theorem State.nextWord_of_zero {s : State} {target : Word} (h : s.pending = some { target := target, words := 0 }) :
    s.nextWord = { s with slot := false, pc := target, pending := none } := by
  rw [State.nextWord, h]

theorem State.nextWord_of_succ {s : State} {target : Word} {n : Nat}
    (h : s.pending = some { target := target, words := n + 1 }) :
    s.nextWord = { s with
      slot := false, pc := s.pc + 2#32, pending := some { target := target, words := n } } := by
  rw [State.nextWord, h]

/-- While a transfer waits, each fetch word moves PC on and is counted (R212). -/
theorem State.iterate_nextWord_waiting {target : Word} (k : Nat) {s : State} {n : Nat}
    (h : s.pending = some { target := target, words := n }) (hk : k ≤ n) :
    (State.nextWord^[k] s).pc = s.pc + 2#32 * BitVec.ofNat 32 k ∧
      (State.nextWord^[k] s).pending = some { target := target, words := n - k } := by
  induction k generalizing s n with
  | zero => exact ⟨by simp, h⟩
  | succ k ih =>
    obtain ⟨m, rfl⟩ : ∃ m, n = m + 1 := ⟨n - 1, by omega⟩
    have hnext := State.nextWord_of_succ h
    obtain ⟨hpc, hpending⟩ := ih (s := s.nextWord) (n := m) (by rw [hnext]) (by omega)
    rw [Function.iterate_succ_apply, hpc, hpending, hnext, Nat.add_sub_add_right, BitVec.ofNat_add]
    refine ⟨?_, rfl⟩
    rw [BitVec.mul_add, BitVec.mul_one, BitVec.add_assoc, BitVec.add_comm 2#32]

/-- After the fetch words of the delay the transfer takes effect (R212). -/
theorem State.iterate_nextWord_arrives {target : Word} (n : Nat) {s : State}
    (h : s.pending = some { target := target, words := n }) :
    State.nextWord^[n + 1] s = { s with slot := false, pc := target, pending := none } := by
  induction n generalizing s with
  | zero => exact State.nextWord_of_zero h
  | succ n ih =>
    have hnext := State.nextWord_of_succ h
    rw [Function.iterate_succ_apply, ih (by rw [hnext]), hnext]

/-- Settles O38: by induction on the fetch words of the delay. -/
theorem delayedTransferArrives : Obligations.DelayedTransferArrives := fun _ _ n h =>
  ⟨fun k hk => State.iterate_nextWord_waiting k h hk, State.iterate_nextWord_arrives n h⟩

/-! ### The end of an instruction -/

/-- What follows an instruction is moving on, and a change of the requests. -/
theorem afterInstr_eq_advance (long : Bool) (s t : State) :
    afterInstr long s t = { advance long s t with requests := (afterInstr long s t).requests } := by
  obtain ⟨r, e⟩ := State.traced_frame (advance long s t)
  rw [afterInstr, e]

theorem advance_eq_nextWord {long : Bool} {s t : State}
    (h : long = true ∨ s.slot = true ∨ (s.pending = none ∧ t.pending ≠ none ∧ t.par.delayRestOfWord = false)) :
    advance long s t = t.nextWord := by
  rw [advance, if_pos]
  rcases h with h | h | ⟨hs, ht, hrest⟩
  · simp [wordDone, h]
  · simp [wordDone, h]
  · simp [wordDone, hs, Option.isSome_iff_ne_none.2 ht, hrest]

theorem advance_eq_slot {long : Bool} {s t : State} (hlong : long = false) (hslot : s.slot = false)
    (h : t.pending = s.pending ∨ t.par.delayRestOfWord = true) : advance long s t = { t with slot := true } := by
  rw [advance, if_neg]
  rcases h with h | h
  · cases hs : s.pending <;> simp [wordDone, hlong, hslot, h, hs]
  · simp [wordDone, hlong, hslot, h]

/-- The trace request is made exactly where the predicate holds of PSWR (R318; log 25). -/
theorem State.req_traced (s : State) (n : Irq) :
    s.traced.req n = true ↔
      s.req n = true ∨ n = .trace ∧ ∃ on, s.par.traceMode = .predicate on ∧ pswrHolds on s.pswr = true := by
  unfold State.traced
  split
  · next h => simp [h]
  · next on h =>
    split
    · next hon => simp [State.req_raise, h, hon]
    · next hon => simp [h, hon]

/-- Settles O54: moving on by the word's half and the pending transfer, then the trace. -/
theorem movingOnFollowsTheHalves : Obligations.MovingOnFollowsTheHalves := by
  intro long s t u
  have htraced (n : Irq) : u.req n = true ↔
      t.req n = true ∨ n = .trace ∧ ∃ on, t.par.traceMode = .predicate on ∧ pswrHolds on t.pswr = true := by
    obtain ⟨pc, slot, pending, e⟩ := advance_frame long s t
    have hpar : (advance long s t).par = t.par := by rw [e]
    have hpswr : (advance long s t).pswr = t.pswr := by rw [e]
    have hreq : (advance long s t).req n = t.req n := State.req_congr (by rw [e]) n
    rw [← hpar, ← hpswr, ← hreq]
    exact State.req_traced (advance long s t) n
  have hu : u = { advance long s t with requests := u.requests } := afterInstr_eq_advance long s t
  refine ⟨fun n hn => ?_, ?_, fun hlong hslot h => ?_, fun hdone => ⟨fun hp => ?_, fun target n hp => ⟨?_, fun hn => ?_⟩⟩⟩
  · exact Bool.eq_iff_iff.2 ((htraced n).trans (by simp [hn]))
  · simpa [pswrHolds_iff] using htraced .trace
  · rw [hu, advance_eq_slot hlong hslot h]
  · rw [hu, advance_eq_nextWord hdone, State.nextWord_of_none hp]
  · rintro rfl
    rw [hu, advance_eq_nextWord hdone, State.nextWord_of_zero hp]
  · obtain ⟨m, rfl⟩ := Nat.exists_eq_succ_of_ne_zero hn
    rw [hu, advance_eq_nextWord hdone, State.nextWord_of_succ hp]
    rfl

/-! ### Reset -/

theorem State.reset_channel (c : Fin 2) : State.reset.channel c = Channel.zero := Vector.getElem_replicate _

theorem State.regValue_reset (r : Target) : State.reset.regValue r = 0 := by
  cases r with
  | gr i => exact congrArg (BitVec.zeroExtend 64) (Vector.getElem_replicate (a := (0 : Word)) i.isLt)
  | ar i => exact congrArg (BitVec.zeroExtend 64) (Vector.getElem_replicate (a := (0 : Word)) i.isLt)
  | pswr => rfl
  | timer t => cases t <;> rfl
  | dma q c =>
    rw [State.regValue, State.reset_channel]
    cases q <;> rfl
  | dor c =>
    rw [State.regValue, State.reset_channel]
    rfl

/-- Settles O7: the fields of the reset state, and the registers one by one. -/
theorem resetIsAsNamed : Obligations.ResetIsAsNamed := by
  refine ⟨⟨rfl, nofun, nofun⟩, rfl, rfl, rfl, rfl, rfl, rfl, State.regValue_reset, fun c => ?_⟩
  rw [State.reset_channel]
  rfl

end Sys2Proof.Machine
end

section
/-!
Memory by words (R62 to R64, R67, R68) and which of them MEM_MAP lets be accessed (R71, R73).
-/

namespace Sys2Proof.Machine

/-! ### The two words of a 64-bit access -/

/-- The even word of an address has bit 0 clear, the odd word set; the other bits are the address's (R63). -/
theorem getLsbD_evenWord (a : Word) (i : Fin 32) :
    (evenWord a).getLsbD i.val = if i = 0 then false else a.getLsbD i.val := by
  have hmask : (0xFFFFFFFE#32).getLsbD i.val = !decide (i = 0) := by
    revert i
    decide
  rw [evenWord, BitVec.getLsbD_and, hmask]
  split <;> simp_all

theorem getLsbD_oddWord (a : Word) (i : Fin 32) :
    (oddWord a).getLsbD i.val = if i = 0 then true else a.getLsbD i.val := by
  have hmask : (1#32).getLsbD i.val = decide (i = 0) := by
    revert i
    decide
  rw [oddWord, BitVec.getLsbD_or, hmask]
  split <;> simp_all

theorem word_ext {a b : Word} (h : ∀ i : Fin 32, a.getLsbD i.val = b.getLsbD i.val) : a = b :=
  BitVec.eq_of_getLsbD_eq fun i hi => h ⟨i, hi⟩

@[simp] theorem oddWord_evenWord (a : Word) : oddWord (evenWord a) = oddWord a :=
  word_ext fun i => by
    simp only [getLsbD_oddWord, getLsbD_evenWord]
    split <;> rfl

@[simp] theorem evenWord_oddWord (a : Word) : evenWord (oddWord a) = evenWord a :=
  word_ext fun i => by
    simp only [getLsbD_oddWord, getLsbD_evenWord]
    split <;> rfl

/-- The even word of a 64-bit word says which its odd word is (R63). -/
theorem oddWord_congr {a b : Word} (h : evenWord a = evenWord b) : oddWord a = oddWord b := by
  rw [← oddWord_evenWord a, h, oddWord_evenWord]

theorem evenWord_of_even {a : Word} (h : a.getLsbD 0 = false) : evenWord a = a :=
  word_ext fun i => by
    rw [getLsbD_evenWord]
    split
    · next hi => rw [hi]; exact h.symm
    · rfl

theorem oddWord_of_odd {a : Word} (h : a.getLsbD 0 = true) : oddWord a = a :=
  word_ext fun i => by
    rw [getLsbD_oddWord]
    split
    · next hi => rw [hi]; exact h.symm
    · rfl

/-- Above an even word stands its odd word. -/
theorem evenWord_add_one (a : Word) : evenWord a + 1#32 = oddWord a := by
  rw [← oddWord_evenWord, oddWord]
  refine BitVec.add_eq_or_of_and_eq_zero _ _ ?_
  rw [evenWord, BitVec.and_assoc]
  exact BitVec.and_zero

/-! ### Writes and reads of every width -/

/-- A 64-bit access does not see bit 0 of its address (R63, R64). -/
theorem State.writeValue_congr (s : State) {a b : Word} (v : DWord) (h : evenWord a = evenWord b) :
    s.writeValue a true v = s.writeValue b true v := by
  simp only [State.writeValue, if_true, h, oddWord_congr h]

theorem State.readValue_congr (s : State) {a b : Word} (h : evenWord a = evenWord b) :
    s.readValue a true = s.readValue b true := by
  simp only [State.readValue, if_true, h, oddWord_congr h]

theorem accessible_wide_congr {s : State} {a b : Word} (h : evenWord a = evenWord b) :
    Accessible s a true ↔ Accessible s b true := by
  rw [accessible_wide, accessible_wide, h, oddWord_congr h]

/-- An accessible access is written. -/
theorem State.memWrite_of_accessible {s : State} {a : Word} {wide : Bool} (v : DWord) (h : Accessible s a wide) :
    s.memWrite a wide v = .next (s.writeValue a wide v) := State.memWrite_eq_next.2 ⟨h, rfl⟩

/-- An accessible access is read. -/
theorem State.memRead_of_accessible {s : State} {a : Word} {wide : Bool} (h : Accessible s a wide) :
    s.memRead a wide = .next (s.readValue a wide) := State.memRead_eq_next.2 ⟨h, rfl⟩

/-- What can be accessed depends on the parameters only: MEM_MAP is one of them (R71, R73). -/
theorem accessible_congr {s t : State} (h : t.par = s.par) {a : Word} {wide : Bool} :
    Accessible t a wide ↔ Accessible s a wide := by
  have word (b : Word) : t.accessWord b = s.accessWord b := by rw [State.accessWord, State.accessWord, h]
  simp only [Accessible, State.access, word]

/-- Settles O12: what a write leaves in the words it stores to, and in the others. -/
theorem writeChangesItsWordsOnly : Obligations.WriteChangesItsWordsOnly := by
  intro s a wide v ha
  refine ⟨_, State.memWrite_of_accessible v ha, State.writeValue_eq s a wide v, ?_, ?_⟩
  · rintro rfl
    refine ⟨by rw [State.word_writeValue_narrow, if_pos rfl], fun b hb => ?_⟩
    rw [State.word_writeValue_narrow, if_neg hb]
  · rintro rfl
    have word := fun b => State.word_writeValue_wide s a b v
    refine ⟨?_, ?_, fun b heven hodd => ?_⟩
    · exact (word (evenWord a)).trans (by rw [if_neg (evenWord_ne_oddWord a a), if_pos rfl])
    · exact (word (oddWord a)).trans (if_pos rfl)
    · exact (word b).trans ((if_neg hodd).trans (if_neg heven))

/-- After a 64-bit write each word reads as its half (R67, R68). -/
theorem memRead_halves_of_writeValue {s : State} {a : Word} (v : DWord) (heven : Accessible s (evenWord a) false)
    (hodd : Accessible s (oddWord a) false) :
    (s.writeValue a true v).memRead (evenWord a) false = .next ((v.extractLsb' 0 32).zeroExtend 64) ∧
      (s.writeValue a true v).memRead (oddWord a) false = .next ((v.extractLsb' 32 32).zeroExtend 64) := by
  have hpar := State.writeValue_par s a true v
  rw [State.memRead_of_accessible ((accessible_congr hpar).2 heven),
    State.memRead_of_accessible ((accessible_congr hpar).2 hodd), State.readValue_narrow, State.readValue_narrow,
    State.word_writeValue_wide, State.word_writeValue_wide, if_neg (evenWord_ne_oddWord a a), if_pos rfl, if_pos rfl]
  exact ⟨rfl, rfl⟩

/-- After 32-bit writes of both words a 64-bit read sees both (R67, R68). -/
theorem readValue_of_setWords (s : State) (a x y : Word) :
    ((s.setWord (evenWord a) x).setWord (oddWord a) y).readValue a true = y ++ x := by
  rw [State.readValue, if_pos rfl, State.word_setWord_self, State.word_setWord_ne _ y (evenWord_ne_oddWord a a).symm,
    State.word_setWord_self]

/-- Settles O13: the even address and its odd twin name the same two words. -/
theorem mixedWidthAccessesSeeTheHalves : Obligations.MixedWidthAccessesSeeTheHalves := by
  intro s a v x y heven ha
  obtain ⟨hlow, hhigh⟩ : Accessible s (evenWord a) false ∧ Accessible s (oddWord a) false := accessible_wide.1 ha
  have hwrites := memRead_halves_of_writeValue v hlow hhigh
  have hreads := readValue_of_setWords s a x y
  have hself : evenWord a = a := evenWord_of_even heven
  have hodd : oddWord a = a + 1#32 := by rw [← evenWord_add_one, hself]
  have htwin : evenWord (a + 1#32) = evenWord a := by rw [← hodd, evenWord_oddWord]
  rw [hodd] at hhigh hwrites hreads
  rw [hself] at hlow hwrites hreads
  have ht : (s.setWord a x).par = s.par := rfl
  have hu : ((s.setWord a x).setWord (a + 1#32) y).par = s.par := rfl
  refine ⟨fun b hb => ?_, s.setWord a x, (s.setWord a x).setWord (a + 1#32) y, ?_, ?_, ?_, ?_⟩
  · have hsame : evenWord b = evenWord a := by
      rcases hb with rfl | rfl
      · rfl
      · exact htwin
    have hb := (accessible_wide_congr hsame).2 ha
    refine ⟨_, State.memWrite_of_accessible v hb, ?_⟩
    rw [memRead_writeValue_wide hb, State.writeValue_congr s v hsame]
    exact ⟨hwrites.1, hwrites.2, rfl⟩
  · rw [State.memWrite_of_accessible _ hlow, State.writeValue_word]
  · rw [State.memWrite_of_accessible _ ((accessible_congr ht).2 hhigh), State.writeValue_word]
  · rw [State.memRead_of_accessible ((accessible_congr hu).2 ha), hreads]
  · have htwins := (accessible_wide_congr htwin).2 ha
    rw [State.memRead_of_accessible ((accessible_congr hu).2 htwins), State.readValue_congr _ htwin, hreads]

end Sys2Proof.Machine
end

section
/-!
Where an access stops and where it completes, by MEM_MAP (R71, R73; log 44): `access` does as the map says, and every load, store,
call, return, interrupt entry and fetch does its one access before anything else can stop it.
-/

namespace Sys2Proof.Machine

/-! ### One word -/

theorem memKindAt_eq_none_iff {s : State} {a : Word} : memKindAt s.par.memMap a.toNat = none ↔ Unbacked s a := by
  simp only [memKindAt, Option.map_eq_none_iff, List.find?_eq_none, Unbacked, Bool.and_eq_true, decide_eq_true_eq]

theorem memKindAt_eq_some_iff {s : State} {a : Word} {k : MemKind} :
    memKindAt s.par.memMap a.toNat = some k ↔ BackedBy k s a := by
  simp only [memKindAt, Option.map_eq_some_iff, BackedBy, Bool.decide_and]

/-- A word is unbacked, a device's or plain memory, and an access of it does as each says (R71, R73). -/
theorem accessWord_cases (s : State) (a : Word) :
    (Unbacked s a ∧ ¬ BackedBy .device s a ∧ ¬ BackedBy .plain s a ∧ s.accessWord a = .fault .noMemory) ∨
      (¬ Unbacked s a ∧ BackedBy .device s a ∧ ¬ BackedBy .plain s a ∧ s.accessWord a = .refused .deviceAccess) ∨
      (¬ Unbacked s a ∧ ¬ BackedBy .device s a ∧ BackedBy .plain s a ∧ s.accessWord a = .next ()) := by
  simp only [← memKindAt_eq_none_iff, ← memKindAt_eq_some_iff, State.accessWord]
  rcases memKindAt s.par.memMap a.toNat with _ | _ | _ <;> simp

/-! ### A whole access -/

/-- The access itself follows MEM_MAP: word by word, the even one first. -/
theorem accessStops_access (s : State) (a : Word) (wide : Bool) : AccessStops s a wide (s.access a wide) := by
  cases wide
  · simp only [AccessStops, storedWords, State.access, Bool.false_eq_true, if_false, List.mem_singleton,
      exists_eq_left]
    rcases accessWord_cases s a with h | h | h <;> simp [h]
  · simp only [AccessStops, storedWords, State.access, if_true, List.mem_cons, List.not_mem_nil, or_false,
      exists_eq_or_imp, exists_eq_left]
    rcases accessWord_cases s (evenWord a) with h | h | h <;>
      rcases accessWord_cases s (oddWord a) with h' | h' | h' <;> simp [h, h']

/-- Plain memory can be accessed. -/
theorem accessible_of_plain {s : State} {a : Word} {wide : Bool} (h : ∀ b ∈ storedWords a wide, BackedBy .plain s b) :
    Accessible s a wide := by
  have word (b : Word) (hb : b ∈ storedWords a wide) : s.accessWord b = .next () :=
    accessWord_eq_next.2 (memKindAt_eq_some_iff.2 (h b hb))
  cases wide
  · exact word a (by simp [storedWords])
  · exact accessible_wide.2 ⟨word _ (by simp [storedWords]), word _ (by simp [storedWords])⟩

/-- What begins with an access stops where the access does. -/
theorem accessStops_andThen {α : Type} (s : State) (a : Word) (wide : Bool) (f : Unit → Result α) :
    AccessStops s a wide (andThen (s.access a wide) f) := by
  obtain ⟨hfault, hrefused⟩ := accessStops_access s a wide
  exact ⟨fun hb hd => by rw [hfault hb hd, andThen_fault], fun hb hu => by rw [hrefused hb hu, andThen_refused]⟩

/-- An access after which nothing stops completes in plain memory. -/
theorem accessDecides_andThen (s : State) (a : Word) (wide : Bool) (f : Unit → State) :
    AccessDecides s a wide (andThen (s.access a wide) fun u => .next (f u)) :=
  ⟨accessStops_andThen s a wide _, fun h => ⟨f (), by rw [accessible_of_plain h, andThen_next]⟩⟩

theorem andThen_assoc {α β γ : Type} (r : Result α) (f : α → Result β) (g : β → Result γ) :
    andThen (andThen r f) g = andThen r fun a => andThen (f a) g := by
  cases r <;> rfl

theorem accessStops_runInstr (s : State) : AccessStops s s.pc true (runInstr s) := by
  rw [runInstr, State.fetch, State.memRead, andThen_assoc, andThen_assoc]
  exact accessStops_andThen s s.pc true _

theorem accessDecides_enterInterrupt (n : Irq) (s : State) : AccessDecides s s.pushAddr true (enterInterrupt n s) := by
  rw [enterInterrupt, State.memWrite, andThen_assoc]
  exact accessDecides_andThen s s.pushAddr true _

/-! ### Transfer rows -/

/-- The words a transfer part accesses: those of a load or a store at `a` of the given width. -/
def Access.At (x : Access) (a : Word) (wide : Bool) : Prop :=
  match x with
  | .none => False
  | .load b dst => b = a ∧ dst.wide = wide
  | .store b w _ => b = a ∧ w = wide

/-- A word whose parts do not collide and that decides no second transfer stops only by its access (R125, R230). -/
theorem accessDecides_commit {plan : Plan} {o : OpEffect} {s : State} {a : Word} {wide : Bool}
    (hcollides : collides plan o = false) (hpend : plan.transfers = true → s.pending = none)
    (hat : plan.access.At a wide) : AccessDecides s a wide (commit plan o s) := by
  have hpend' : ¬ (plan.transfers && s.pending.isSome) = true := by
    cases ht : plan.transfers
    · simp
    · simp [hpend ht]
  rw [commit, if_neg (by simp [hcollides]), if_neg hpend']
  cases hx : plan.access with
  | none => rw [hx] at hat; exact hat.elim
  | load b dst =>
    rw [hx] at hat
    obtain ⟨rfl, rfl⟩ := hat
    simp only [State.memRead, andThen_assoc]
    exact accessDecides_andThen s b dst.wide _
  | store b w v =>
    rw [hx] at hat
    obtain ⟨rfl, rfl⟩ := hat
    simp only [State.memWrite, andThen_assoc]
    exact accessDecides_andThen s b w _

/-- A transfer row whose plan has one access and writes no register twice does as MEM_MAP says of that access. -/
theorem accessDecides_row {t : Instr} {s : State} {plan : Plan} {a : Word} {wide touches : Bool}
    (ht : t.isTransfer = true) (hp : PAllowed (parallelOf t) s) (hplan : transferPart t s = s.guardDma touches plan)
    (hdma : DmaAllowed touches s) (hnodup : plan.targets.Nodup) (hpend : plan.transfers = true → s.pending = none)
    (hat : plan.access.At a wide) : AccessDecides s a wide (exec t s) := by
  rw [State.guardDma_of_allowed hdma] at hplan
  rw [exec_of_plan ht hp hplan]
  exact accessDecides_commit (collides_nullOp.2 hnodup) hpend hat

theorem accessDecides_load {t : Instr} {s : State} {d : Dst} {a : Word} {i : RegIx} {newA : Option Word}
    (ht : t.isTransfer = true) (hp : PAllowed (parallelOf t) s)
    (hplan : transferPart t s = s.guardDma d.touchesDma { access := .load a d, writes := modeWrite i newA })
    (hdma : DmaAllowed d.touchesDma s) (hpend : d.transfers = true → s.pending = none)
    (hmode : modeWrite i newA = [] ∨ .ar i ∉ d.targets) : AccessDecides s a d.wide (exec t s) :=
  accessDecides_row ht hp hplan hdma (nodup_modeWrite_targets hmode) (by simpa [Plan.transfers] using hpend) ⟨rfl, rfl⟩

theorem accessDecides_store {t : Instr} {s : State} {a : Word} {wide touches dr : Bool} {v : DWord} {i : RegIx}
    {newA : Option Word} (ht : t.isTransfer = true) (hp : PAllowed (parallelOf t) s)
    (hplan : transferPart t s =
      s.guardDma touches { access := .store a wide v, writes := modeWrite i newA, draws := dr })
    (hdma : DmaAllowed touches s) : AccessDecides s a wide (exec t s) := by
  refine accessDecides_row ht hp hplan hdma ?_ nofun ⟨rfl, rfl⟩
  cases newA <;> simp [Plan.targets, modeWrite]

/-! ### Taken calls and returns -/

theorem State.pushAddr_eq (s : State) :
    s.pushAddr = if s.par.stackDir = .up then s.readAr 7 else s.readAr 7 - 2#32 := by
  rw [State.pushAddr]
  cases s.par.stackDir <;> rfl

theorem State.popAddr_eq (s : State) :
    s.popAddr = if s.par.stackDir = .up then s.readAr 7 - 2#32 else s.readAr 7 := by
  rw [State.popAddr]
  cases s.par.stackDir <;> rfl

/-- A control row whose condition holds yields its plan (R228). -/
theorem planIf_of_holds {cond : Cond} {s : State} (h : condHolds cond s.flags = true) (plan : Plan) :
    planIf cond s plan = s.guardDma false plan :=
  (if_pos h).trans (State.guardDma_of_allowed (dmaAllowed_false s)).symm

/-- A taken call stops or completes by its push (R221). -/
theorem accessDecides_call {t : Instr} {s : State} {cond : Cond} {target : Word} (ht : t.isTransfer = true)
    (hp : PAllowed (parallelOf t) s) (hplan : transferPart t s = planIf cond s (s.callPlan target))
    (hcond : condHolds cond s.flags = true) (hpend : s.pending = none) :
    AccessDecides s s.pushAddr true (exec t s) :=
  accessDecides_row ht hp (hplan.trans (planIf_of_holds hcond _)) (dmaAllowed_false s)
    (by simp [Plan.targets, State.callPlan]) (fun _ => hpend) ⟨rfl, rfl⟩

/-- A taken return stops or completes by its pop, since the stack entry does not hold AR7 (R225). -/
theorem accessDecides_return {t : Instr} {s : State} {cond : Cond} {d : Dst} (ht : t.isTransfer = true)
    (hp : PAllowed (parallelOf t) s) (hplan : transferPart t s = planIf cond s (s.returnPlan d))
    (hcond : condHolds cond s.flags = true) (hpend : s.pending = none) (hd : .ar 7 ∉ d.targets) :
    AccessDecides s s.popAddr d.wide (exec t s) :=
  accessDecides_row ht hp (hplan.trans (planIf_of_holds hcond _)) (dmaAllowed_false s)
    (nodup_modeWrite_targets (i := 7) (newA := some s.popSp) (.inr hd)) (fun _ => hpend) ⟨rfl, rfl⟩

/-- Settles O14: every load, store, call and return is one plan with one access, and the push and the fetch begin with theirs. -/
theorem accessesFollowTheMemoryMap : Obligations.AccessesFollowTheMemoryMap := by
  refine ⟨fun p i s hp => ⟨fun r d hd hdma hpend => ⟨fun am hmode => ?_, fun amc k hmode => ?_⟩,
    fun r x hx hdma => ⟨fun am => ?_, fun amc k => ?_⟩, fun cond hcond hpend => ?_⟩, fun s => ⟨fun n => ?_, ?_⟩⟩
  · exact accessDecides_load rfl hp (transferPart_ldR hd p am i s) hdma hpend hmode
  · exact accessDecides_load rfl hp (transferPart_ldI hd p amc i k s) hdma hpend hmode
  · exact accessDecides_store rfl hp (transferPart_stR hx p am i s) hdma
  · exact accessDecides_store rfl hp (transferPart_stI hx p amc i k s) hdma
  · simp only [← State.pushAddr_eq, ← State.popAddr_eq]
    refine ⟨fun pm => ?_, fun pmc k => ?_, ?_, ?_⟩
    · exact accessDecides_call (target := pmTarget pm i s) rfl hp rfl hcond hpend
    · exact accessDecides_call (target := pmcTarget pmc i k s) rfl hp rfl hcond hpend
    · exact accessDecides_return (d := .returnPc) rfl hp rfl hcond hpend (by simp [Dst.targets])
    · exact accessDecides_return (d := .pswrPc) rfl hp rfl hcond hpend (by simp [Dst.targets])
  · rw [← State.pushAddr_eq]
    exact accessDecides_enterInterrupt n s
  · exact accessStops_runInstr s

end Sys2Proof.Machine
end

section
/-!
What each instruction stores (R69, R170, R240): the store that its transfer part plans, and nothing else.
-/

namespace Sys2Proof.Machine

/-- The state after the memory access of a transfer part: a load leaves it as it was. -/
def State.accessed (s : State) (x : Access) : State :=
  match x with
  | .store a wide v => s.writeValue a wide v
  | _ => s

theorem State.accessed_of_not_store {s : State} {x : Access} (h : ∀ a wide v, x ≠ .store a wide v) : s.accessed x = s := by
  cases x with
  | store a wide v => exact absurd rfl (h a wide v)
  | _ => rfl

/-- Register writes, flags and the transfer do not touch memory, so a word that answers leaves there what its access does. -/
theorem commit_memory {plan : Plan} {o : OpEffect} {s t : State} (h : commit plan o s = .next t) :
    t.mem = (s.accessed plan.access).mem ∧ t.stored = (s.accessed plan.access).stored := by
  have finish (m : State) (ws : List RegWrite) (j : Option Word) :
      (m.finish ws j plan.draws o).mem = m.mem ∧ (m.finish ws j plan.draws o).stored = m.stored := by
    obtain ⟨hmem, hstored, -⟩ := State.finish_frame m ws j plan.draws o
    exact ⟨hmem, hstored⟩
  obtain ⟨-, -, haccess⟩ := commit_eq_next.1 h
  cases hx : plan.access with
  | none =>
    rw [hx] at haccess
    rw [haccess]
    exact finish s _ _
  | load a dst =>
    rw [hx] at haccess
    rw [haccess.2]
    exact finish s _ _
  | store a wide v =>
    rw [hx] at haccess
    rw [haccess.2]
    exact finish (s.writeValue a wide v) _ _

/-- An instruction that answers does to memory what the access of its transfer part does. -/
theorem exec_memory {i : Instr} {s t : State} (h : exec i s = .next t) :
    ∃ plan, transferPart i.transferOf s = .next plan ∧
      t.mem = (s.accessed plan.access).mem ∧ t.stored = (s.accessed plan.access).stored := by
  obtain ⟨-, plan, o, hplan, -, hcommit⟩ := exec_eq_next.1 h
  exact ⟨plan, hplan, commit_memory hcommit⟩

/-- An OP row in the place of a transfer part is refused, so what yields a plan is a transfer row. -/
theorem isTransfer_of_transferPart {t : Instr} {s : State} {plan : Plan} (h : transferPart t s = .next plan) :
    t.isTransfer = true := by
  cases t <;> first | rfl | cases h

/-- The transfer part of a word that is no store or call plans no store. -/
theorem access_ne_store {i : Instr} {s : State} {plan : Plan} (hplan : transferPart i.transferOf s = .next plan)
    (hi : i.storesMemory = false) : ∀ a wide v, plan.access ≠ .store a wide v := by
  have hstores : i.transferOf.storesMemory = false := by
    rw [Instr.storesMemory, transferOf_of_isTransfer (isTransfer_of_transferPart hplan)]
    exact hi
  rcases transferPart_cases i.transferOf s with ⟨r, h⟩ | h | ⟨plan', h, hne⟩
  · rw [h] at hplan; cases hplan
  · rw [h] at hplan; cases hplan
  · rw [h] at hplan
    cases hplan
    exact hne hstores

/-- Settles O10: a transfer part that plans no store leaves memory and its notes, so every word, as they were. -/
theorem onlyStoresAndCallsWriteMemory : Obligations.OnlyStoresAndCallsWriteMemory := by
  intro i s t h hi
  obtain ⟨plan, hplan, hmem, hstored⟩ := exec_memory h
  rw [State.accessed_of_not_store (access_ne_store hplan hi)] at hmem hstored
  exact ⟨hmem, hstored, fun a => by rw [State.word, hmem, State.word]⟩

end Sys2Proof.Machine
end

section
/-!
The fetch and the step around an instruction (R66, R78, R120, R121, R126), and the first step from reset (log 2, 5, 6, 8, 28).
-/

namespace Sys2Proof.Machine

/-! ### The fetch -/

/-- A fetch word in plain memory that nothing has stored to is fetched (R66). -/
theorem State.fetch_of_accessible {s : State} (ha : Accessible s s.pc true) (hc : s.codeStored = false) :
    s.fetch = .next (s.readValue s.pc true) := State.fetch_eq_next.2 ⟨ha, hc, rfl⟩

/-- A fetch word with a word that has been stored to is refused (R78, R362). -/
theorem State.fetch_of_codeStored {s : State} (ha : Accessible s s.pc true) (hc : s.codeStored = true) :
    s.fetch = .refused .selfModifiedCode := by
  rw [State.fetch, State.memRead_of_accessible ha, andThen_next, if_pos hc]

/-- A fetched instruction is executed, and the machine moves on (R120, R126). -/
theorem runInstr_of_decoded {s : State} {f : DWord} {i : Instr} (hf : s.fetch = .next f)
    (hi : decodeFetch f s.slot = some i) :
    runInstr s = andThen (exec i s) fun t => .next (afterInstr (isLongWord (fetchedWord f s.slot)) s t) := by
  rw [runInstr, hf, andThen_next, hi]

/-- A fetch word whose half does not decode is a long format in the high half (R121). -/
theorem runInstr_of_undecoded {s : State} {f : DWord} (hf : s.fetch = .next f) (hi : decodeFetch f s.slot = none) :
    runInstr s = .refused .longInHighHalf := by
  rw [runInstr, hf, andThen_next, hi]

/-- A step with no interrupt to take executes the instruction at PC. -/
theorem step_of_no_irq {s s1 : State} (h : irqDecision s.agentsAct = (none, s1)) : step s = runInstr s1 := by
  rw [step, stepOnce, h]

/-- The word at PC, where it is plain memory and no code stored to, is what a step executes (R66, R120, R126). -/
theorem step_of_decoded {s s1 : State} {i : Instr} (hirq : irqDecision s.agentsAct = (none, s1))
    (ha : Accessible s1 s1.pc true) (hc : s1.codeStored = false)
    (hi : decodeFetch (s1.readValue s1.pc true) s1.slot = some i) :
    step s = andThen (exec i s1) fun t =>
      .next (afterInstr (isLongWord (fetchedWord (s1.readValue s1.pc true) s1.slot)) s1 t) :=
  (step_of_no_irq hirq).trans (runInstr_of_decoded (State.fetch_of_accessible ha hc) hi)

/-! ### A fetch word placed at PC -/

theorem State.readValue_placeFetchWord (s : State) (f : DWord) : (s.placeFetchWord f).readValue s.pc true = f := by
  have hne := toNat_ne (evenWord_ne_oddWord s.pc s.pc).symm
  rw [State.readValue, if_pos rfl, State.word, State.word, State.placeFetchWord, Memory.read_write_self,
    Memory.read_write_ne _ _ hne, Memory.read_write_self]
  exact BitVec.extractLsb'_append_extractLsb' (w := 32) (len := 32)

theorem State.codeStored_placeFetchWord (s : State) (f : DWord) : (s.placeFetchWord f).codeStored = false := by
  simp [State.codeStored, State.placeFetchWord]

/-- All of memory is plain at launch (log 5). -/
theorem accessible_of_launchMemMap {s : State} (h : s.par.memMap = launchMemMap) (a : Word) (wide : Bool) :
    Accessible s a wide := by
  have word (b : Word) : s.accessWord b = .next () := by
    rw [accessWord_eq_next, h]
    simpa [memKindAt, launchMemMap] using toNat_lt b
  cases wide
  · exact word a
  · exact accessible_wide.2 ⟨word _, word _⟩

/-- Where no input waits and the timers are the environment's, the other agents do nothing (R306, R330). -/
theorem State.agentsAct_of_idle {s : State} (hi : s.inputs = []) (ht : s.par.timerModel = .environment) :
    s.agentsAct = s := by
  rw [State.agentsAct, State.takeInputs, hi]
  exact State.tickTimers_environment ht

/-- Without a request no interrupt is taken (R303). -/
theorem irqDecision_of_no_request {s : State} (hr : s.requests = 0) (hw : s.irqWait = none) :
    irqDecision s = (none, s) := by
  have hnone : s.enabledIrq = none := by
    rw [State.enabledIrq, List.find?_eq_none]
    simp [State.req, hr]
  rw [irqDecision, hnone, ← hw]
  simp

/-- Settles O53: the fetch answers with the word at PC; from reset no agent acts and no interrupt is requested. -/
theorem stepRunsTheDecodedInstruction : Obligations.StepRunsTheDecodedInstruction := by
  refine ⟨fun s s1 i hirq ha hc => step_of_decoded hirq ha hc, fun nbits w i hi => ?_⟩
  have hirq : irqDecision (State.reset.withFetchWord nbits w).agentsAct = (none, State.reset.withFetchWord nbits w) := by
    rw [State.agentsAct_of_idle rfl rfl]
    exact irqDecision_of_no_request rfl rfl
  have hword := State.readValue_placeFetchWord State.reset (tableFetchWord nbits w)
  rw [← hword]
  exact step_of_decoded hirq (accessible_of_launchMemMap rfl _ _) (State.codeStored_placeFetchWord State.reset _)
    ((congrArg (decodeFetch · false) hword).trans hi)

end Sys2Proof.Machine
end

section
/-!
The notes of what has been stored since reset (R78, R362; log 29): every store makes its own, every step keeps them, and a fetch of
a noted word is refused.
-/

namespace Sys2Proof.Machine

/-! ### What an instruction and an interrupt entry note -/

/-- `t` has the notes of `s` and those of the given words. -/
def Notes (s t : State) (words : List Word) : Prop := ∀ n : Nat, n ∈ t.stored ↔ n ∈ s.stored ∨ ∃ b ∈ words, n = b.toNat

theorem Notes.subset {s t : State} {words : List Word} (h : Notes s t words) : s.stored ⊆ t.stored :=
  fun n hn => (h n).2 (.inl hn)

theorem notes_writeValue (s : State) (a : Word) (wide : Bool) (v : DWord) :
    Notes s (s.writeValue a wide v) (storedWords a wide) := fun _ => State.mem_stored_writeValue

/-- An instruction whose transfer part plans a store notes its words, beside every OP part. -/
theorem notes_exec {i : Instr} {s t : State} {touches : Bool} {plan : Plan} {a : Word} {wide : Bool} {v : DWord}
    (h : exec i s = .next t) (hplan : transferPart i.transferOf s = s.guardDma touches plan)
    (hx : plan.access = .store a wide v) : Notes s t (storedWords a wide) := by
  obtain ⟨plan', hplan', -, hstored⟩ := exec_memory h
  obtain ⟨-, rfl⟩ := State.guardDma_eq_next.1 (hplan.symm.trans hplan')
  rw [hx] at hstored
  intro n
  rw [hstored]
  exact notes_writeValue s a wide v n

/-- A taken call notes the words of its stack entry (R221). -/
theorem notes_call {i : Instr} {s t : State} {cond : Cond} {target : Word} (h : exec i s = .next t)
    (hplan : transferPart i.transferOf s = planIf cond s (s.callPlan target)) (hcond : condHolds cond s.flags = true) :
    Notes s t (storedWords s.pushAddr true) :=
  notes_exec h (hplan.trans (planIf_of_holds hcond _)) rfl

theorem notes_enterInterrupt {n : Irq} {s t : State} (h : enterInterrupt n s = .next t) :
    Notes s t (storedWords s.pushAddr true) := by
  obtain ⟨-, rfl⟩ := enterInterrupt_eq_next.1 h
  exact notes_writeValue s s.pushAddr true (s.stackEntry s.pc)

/-! ### Every step keeps the notes -/

theorem State.stored_subset_dmaStore (s : State) (a v : Word) : s.stored ⊆ (s.dmaStore a v).stored :=
  fun _ hn => State.mem_stored_dmaStore.2 (.inl hn)

/-- Of the other agents' actions only the stores of the DMA co-processor touch the notes (log 29). -/
theorem stored_subset_applyInput (s : State) (x : Input) : s.stored ⊆ (applyInput s x).stored := by
  rcases applyInput_cases s x with e | e <;> rw [e]
  · cases x with
    | dmaStoreWord a v => exact s.stored_subset_dmaStore a v
    | dmaStorePair a v => exact List.Subset.trans (s.stored_subset_dmaStore _ _) (State.stored_subset_dmaStore _ _ _)
    | _ => exact List.Subset.refl _
  · exact List.Subset.refl _

theorem stored_subset_foldl_applyInput (xs : List Input) (s : State) : s.stored ⊆ (xs.foldl applyInput s).stored := by
  induction xs generalizing s with
  | nil => exact List.Subset.refl _
  | cons x rest ih => exact List.Subset.trans (stored_subset_applyInput s x) (ih _)

theorem State.stored_subset_takeInputs (s : State) : s.stored ⊆ s.takeInputs.stored := by
  unfold State.takeInputs
  split
  · exact List.Subset.refl _
  · next now later _ => exact stored_subset_foldl_applyInput now { s with inputs := later }

theorem State.stored_agentsAct (s : State) : s.agentsAct.stored = s.takeInputs.stored := by
  obtain ⟨r, x, y, e⟩ := State.tickTimers_frame s.takeInputs
  rw [State.agentsAct, e]

theorem stored_subset_exec {i : Instr} {s t : State} (h : exec i s = .next t) : s.stored ⊆ t.stored := by
  obtain ⟨plan, -, -, hstored⟩ := exec_memory h
  rw [hstored]
  cases plan.access with
  | store a wide v => exact (notes_writeValue s a wide v).subset
  | _ => exact List.Subset.refl _

theorem stored_subset_runInstr {s t : State} (h : runInstr s = .next t) : s.stored ⊆ t.stored := by
  obtain ⟨f, i, u, -, -, hexec, rfl⟩ := runInstr_eq_next.1 h
  obtain ⟨pc, slot, pending, r, e⟩ := afterInstr_frame (isLongWord (fetchedWord f s.slot)) s u
  have hstored : (afterInstr (isLongWord (fetchedWord f s.slot)) s u).stored = u.stored := by rw [e]
  rw [hstored]
  exact stored_subset_exec hexec

/-- After the other agents have acted, what a step goes on to do keeps the notes. -/
theorem stored_agentsAct_subset_step {s t : State} (h : step s = .next t) : s.agentsAct.stored ⊆ t.stored := by
  obtain ⟨w, d, e⟩ := irqDecision_frame s.agentsAct
  have hdecision : (irqDecision s.agentsAct).2.stored = s.agentsAct.stored := by rw [e]
  rw [← hdecision]
  rcases step_eq_next.1 h with ⟨n, -, hn⟩ | ⟨-, hi⟩
  · exact (notes_enterInterrupt hn).subset
  · exact stored_subset_runInstr hi

theorem stored_subset_step {s t : State} (h : step s = .next t) : s.stored ⊆ t.stored := by
  refine List.Subset.trans ?_ (stored_agentsAct_subset_step h)
  rw [State.stored_agentsAct]
  exact s.stored_subset_takeInputs

/-! ### What the DMA co-processor notes -/

/-- The input is a store of the DMA co-processor to the word, alone or as a word of a 64-bit store (R336). -/
def Input.StoresTo (x : Input) (b : Word) : Prop :=
  match x with
  | .dmaStoreWord a _ => b = a
  | .dmaStorePair a _ => b ∈ storedWords a true
  | _ => False

/-- A store of the DMA co-processor notes each of its words that is plain memory (log 29, 40). -/
theorem mem_stored_applyInput {s : State} {x : Input} {b : Word} (hd : s.par.dmaModel = .agent) (hx : x.StoresTo b)
    (hb : Accessible s b false) : b.toNat ∈ (applyInput s x).stored := by
  have hplain : memKindAt s.par.memMap b.toNat = some .plain := accessWord_eq_next.1 hb
  cases x with
  | dmaStoreWord a v =>
    rw [applyInput_of_dma hd rfl, act, State.mem_stored_dmaStore, ← (show b = a from hx)]
    exact .inr ⟨hplain, rfl⟩
  | dmaStorePair a v =>
    obtain ⟨m, st, e⟩ := State.dmaStore_frame s (evenWord a) (v.extractLsb' 0 32)
    have hpar : (s.dmaStore (evenWord a) (v.extractLsb' 0 32)).par = s.par := by rw [e]
    rw [applyInput_of_dma hd rfl, act, State.mem_stored_dmaStore, State.mem_stored_dmaStore, hpar]
    rcases List.mem_pair.1 hx with rfl | rfl
    · exact .inl (.inr ⟨hplain, rfl⟩)
    · exact .inr ⟨hplain, rfl⟩
  | _ => exact hx.elim

/-- What one input notes, whatever the inputs before it have done, is noted when all are done. -/
theorem mem_stored_foldl_applyInput {xs : List Input} {x : Input} {b : Word} {s : State} (hmem : x ∈ xs)
    (hd : s.par.dmaModel = .agent) (hx : x.StoresTo b) (hb : Accessible s b false) :
    b.toNat ∈ (xs.foldl applyInput s).stored := by
  induction xs generalizing s with
  | nil => cases hmem
  | cons y rest ih =>
    rw [List.foldl_cons]
    rcases List.mem_cons.1 hmem with rfl | hrest
    · exact stored_subset_foldl_applyInput rest _ (mem_stored_applyInput hd hx hb)
    · obtain ⟨r, d, c, m, st, e⟩ := applyInput_frame s y
      have hpar : (applyInput s y).par = s.par := by rw [e]
      exact ih hrest (hpar ▸ hd) ((accessible_congr hpar).2 hb)

/-- A step notes what the DMA co-processor stores at its boundary. -/
theorem mem_stored_step_of_input {s t : State} {now : List Input} {later : List (List Input)} {x : Input} {b : Word}
    (hs : s.inputs = now :: later) (h : step s = .next t) (hmem : x ∈ now) (hd : s.par.dmaModel = .agent)
    (hx : x.StoresTo b) (hb : Accessible s b false) : b.toNat ∈ t.stored := by
  refine stored_agentsAct_subset_step h ?_
  rw [State.stored_agentsAct, State.takeInputs, hs]
  have hpar : ({ s with inputs := later } : State).par = s.par := rfl
  exact mem_stored_foldl_applyInput hmem hd hx ((accessible_congr hpar).2 hb)

/-! ### Refusals -/

/-- P = 1 is refused before either part of the word is looked at (R122). -/
theorem exec_of_parallel {i : Instr} {s : State} (hm : s.par.pMode = .refuse) (hp : parallelOf i = true) :
    exec i s = .refused .parallelBit := by
  rw [exec_eq_runWord]
  unfold runWord
  rw [if_pos (by simp [hm, hp])]

/-- The high half of a fetch word is its odd word (R66, R120). -/
theorem fetchedWord_high (s : State) (a : Word) : fetchedWord (s.readValue a true) true = s.word (oddWord a) :=
  BitVec.extractLsb'_append_eq_left

/-- A noted word at PC is one of the two words of the fetch word (R63, R78). -/
theorem State.codeStored_of_mem {s : State} {b : Word} (hb : b.toNat ∈ s.stored) (h : evenWord s.pc = evenWord b) :
    s.codeStored = true := by
  have hword : b = evenWord b ∨ b = oddWord b := by
    cases h0 : b.getLsbD 0
    · exact .inl (evenWord_of_even h0).symm
    · exact .inr (oddWord_of_odd h0).symm
  rw [State.codeStored, h, oddWord_congr h, Bool.or_eq_true, List.contains_iff_mem, List.contains_iff_mem]
  rcases hword with e | e <;> rw [← e]
  · exact .inl hb
  · exact .inr hb

/-- Settles O59: the refusals of the P bit, the high half and the noted fetch word, and what each store notes. -/
theorem refusedFetchesAndWords : Obligations.RefusedFetchesAndWords := by
  dsimp only [Obligations.RefusedFetchesAndWords]
  simp only [← State.pushAddr_eq]
  refine ⟨fun i s => exec_of_parallel, fun s hslot ha hc hlong => ?_, fun i s t h p j => ⟨fun am r x hi hx => ?_,
    fun amc r k x hi hx => ?_, fun cond hcond => ⟨fun pm hi => ?_, fun pmc k hi => ?_⟩⟩,
    fun n s t h => notes_enterInterrupt h, fun s hd => ⟨fun a v ha => ?_, fun a v b hb hplain => ?_,
      fun t now later hs h => ⟨fun a v hmem ha => ?_, fun a v hmem b hb hplain => ?_⟩⟩,
    fun s t h n hn => stored_subset_step h hn, fun s b hb hpc ha => ?_⟩
  · refine runInstr_of_undecoded (State.fetch_of_accessible ha hc) ?_
    rw [decodeFetch, hslot, fetchedWord_high]
    exact if_pos hlong
  · exact notes_exec h (hi ▸ transferPart_stR hx p am j s) rfl
  · exact notes_exec h (hi ▸ transferPart_stI hx p amc j k s) rfl
  · exact notes_call (target := pmTarget pm j s) h (congrArg (transferPart · s) hi) hcond
  · exact notes_call (target := pmcTarget pmc j k s) h (congrArg (transferPart · s) hi) hcond
  · rw [applyInput_dmaStoreWord v hd ha]
    exact notes_writeValue s a false _
  · exact mem_stored_applyInput hd hb hplain
  · exact mem_stored_step_of_input hs h hmem hd (x := .dmaStoreWord a v) rfl ha
  · exact mem_stored_step_of_input hs h hmem hd (x := .dmaStorePair a v) hb hplain
  · have hfetch := State.fetch_of_codeStored ha (State.codeStored_of_mem hb hpc)
    exact ⟨hfetch, by rw [runInstr, hfetch, andThen_refused]⟩

end Sys2Proof.Machine
end

section
/-!
The fields of the transfer formats (R93 to R106): what the encoder puts into each field of an instruction word, and that the
decoder reads the row back from them. A don't-care bit (R115) is no field.
-/

namespace Sys2Proof

open BitVec (extractLsb'_append_eq_of_le extractLsb'_append_eq_of_add_le extractLsb'_append_extractLsb'_eq_extractLsb'
  extractLsb'_eq_self)

/-! ### Fields and codes -/

@[simp] theorem regField_regBits (i : RegIx) : regField (regBits i) = i := by
  revert i
  decide

@[simp] theorem arjField_arjBits (j : Fin 4) : arjField (arjBits j) = j := by
  revert j
  decide

@[simp] theorem decodeCond_encodeCond (c : Cond) : decodeCond (encodeCond c) = c := by
  cases c <;> rfl

@[simp] theorem decodePm_encodePm (pm : PM) : decodePm (encodePm pm) = pm := by
  cases pm <;> rfl

@[simp] theorem decodePmc_encodePmc (pmc : PMC) : decodePmc (encodePmc pmc) = pmc := by
  cases pmc <;> rfl

@[simp] theorem getLsbD_bitField (b : Bool) : (bitField b).getLsbD 0 = b := by
  cases b <;> rfl

theorem getLsbD_append_of_lt {n m j : Nat} {x : BitVec n} {y : BitVec m} (h : j < m) :
    (x ++ y).getLsbD j = y.getLsbD j := by
  rw [BitVec.getLsbD_append, if_pos h]

theorem getLsbD_append_of_le {n m j : Nat} {x : BitVec n} {y : BitVec m} (h : m ≤ j) :
    (x ++ y).getLsbD j = x.getLsbD (j - m) := by
  rw [BitVec.getLsbD_append, if_neg (Nat.not_lt.2 h)]

/-! ### The fields of each format -/

section
variable {w : Word} {p : Bool} {i : RegIx} {op : BitVec 16}

/-- LS.R (R94): bits 29:28 of the major code are 01 and the first bit of AM. -/
theorem encodeLsR_fields {am : BitVec 3} {store : Bool} {r : RegCode} (hw : w = encodeLsR p am store i r ++ op) :
    w.getLsbD 31 = p ∧ w.extractLsb' 28 3 = 0b01#2 ++ am.extractLsb' 2 1 ∧ w.extractLsb' 26 3 = am ∧
      w.getLsbD 25 = store ∧ w.extractLsb' 22 3 = regBits i ∧ w.extractLsb' 16 6 = r := by
  rw [hw, ← extractLsb'_append_extractLsb'_eq_extractLsb' (start₂ := 29) (len₂ := 2) (len₁ := 1) rfl]
  simp (disch := decide) only [encodeLsR, extractLsb'_append_eq_of_le, extractLsb'_append_eq_of_add_le,
    extractLsb'_eq_self, getLsbD_append_of_le, getLsbD_append_of_lt, getLsbD_bitField, Nat.reduceSub, and_self]

/-- LS.I (R95). -/
theorem encodeLsI_fields {amc : BitVec 2} {store : Bool} {r : RegCode} (hw : w = encodeLsI p amc store i r ++ op) :
    w.getLsbD 31 = p ∧ w.extractLsb' 28 3 = 0b110#3 ∧ w.extractLsb' 26 2 = amc ∧ w.getLsbD 25 = store ∧
      w.extractLsb' 22 3 = regBits i ∧ w.extractLsb' 16 6 = r := by
  rw [hw]
  simp (disch := decide) only [encodeLsI, extractLsb'_append_eq_of_le, extractLsb'_append_eq_of_add_le,
    extractLsb'_eq_self, getLsbD_append_of_le, getLsbD_append_of_lt, getLsbD_bitField, Nat.reduceSub, and_self]

/-- ARM.R and ARM.I (R99, R100). -/
theorem encodeArm_fields {major : BitVec 3} {rm : BitVec 2} {j : Fin 4} (hw : w = encodeArm p major rm i j ++ op) :
    w.getLsbD 31 = p ∧ w.extractLsb' 28 3 = major ∧ w.extractLsb' 26 2 = rm ∧ w.getLsbD 25 = true ∧
      w.extractLsb' 22 3 = regBits i ∧ w.extractLsb' 20 2 = 0b01#2 ∧ w.extractLsb' 16 2 = arjBits j := by
  rw [hw]
  simp (disch := decide) only [encodeArm, extractLsb'_append_eq_of_le, extractLsb'_append_eq_of_add_le,
    extractLsb'_eq_self, getLsbD_append_of_le, getLsbD_append_of_lt, getLsbD_bitField, Nat.reduceSub]
  decide

/-- J.R and J.I (R104, R105). -/
theorem encodeJump_fields {major : BitVec 3} {pm : BitVec 2} {call : Bool} {c : Cond}
    (hw : w = encodeJump p major pm call i c ++ op) :
    w.getLsbD 31 = p ∧ w.extractLsb' 28 3 = major ∧ w.extractLsb' 26 2 = pm ∧ w.getLsbD 25 = call ∧
      w.extractLsb' 22 3 = regBits i ∧ w.extractLsb' 20 2 = 0b10#2 ∧ w.extractLsb' 16 4 = encodeCond c := by
  rw [hw]
  simp (disch := decide) only [encodeJump, extractLsb'_append_eq_of_le, extractLsb'_append_eq_of_add_le,
    extractLsb'_eq_self, getLsbD_append_of_le, getLsbD_append_of_lt, getLsbD_bitField, Nat.reduceSub, and_self]

/-- RET (R106). -/
theorem encodeRet_fields {interrupt : Bool} {c : Cond} (hw : w = encodeRet p interrupt c ++ op) :
    w.getLsbD 31 = p ∧ w.extractLsb' 28 3 = 0b000#3 ∧ w.getLsbD 27 = interrupt ∧ w.extractLsb' 20 2 = 0b11#2 ∧
      w.extractLsb' 20 7 = 0b0111111#7 ∧ w.extractLsb' 16 4 = encodeCond c := by
  rw [hw]
  simp (disch := decide) only [encodeRet, extractLsb'_append_eq_of_le, extractLsb'_append_eq_of_add_le,
    extractLsb'_eq_self, getLsbD_append_of_le, getLsbD_append_of_lt, getLsbD_bitField, Nat.reduceSub, and_self]
  decide

/-- LDC and its space (R97, R98), NOP.R and NOP.I (R101, R102): bits 27:22, 21:20 and 19:16. -/
theorem triple_fields {major : BitVec 3} {a : BitVec 6} {b : BitVec 2} {c : BitVec 4}
    (hw : w = bitField p ++ major ++ a ++ b ++ c ++ op) :
    w.getLsbD 31 = p ∧ w.extractLsb' 28 3 = major ∧ w.extractLsb' 22 6 = a ∧ w.getLsbD 25 = a.getLsbD 3 ∧
      w.extractLsb' 20 2 = b ∧ w.extractLsb' 16 4 = c := by
  rw [hw]
  simp (disch := decide) only [extractLsb'_append_eq_of_le, extractLsb'_append_eq_of_add_le, extractLsb'_eq_self,
    getLsbD_append_of_le, getLsbD_append_of_lt, getLsbD_bitField, Nat.reduceSub, and_self]

/-- The reserved spaces and the user defined space (R130, R290): bits 27:16, of which 21:20 and 26:20 tell the row. -/
theorem bits_fields {major : BitVec 3} {bits : BitVec 12} (hw : w = bitField p ++ major ++ bits ++ op) :
    w.getLsbD 31 = p ∧ w.extractLsb' 28 3 = major ∧ w.extractLsb' 16 12 = bits ∧
      w.extractLsb' 20 2 = bits.extractLsb' 4 2 ∧ w.extractLsb' 20 7 = bits.extractLsb' 4 7 := by
  rw [hw]
  simp (disch := decide) only [extractLsb'_append_eq_of_le, extractLsb'_append_eq_of_add_le, extractLsb'_eq_self,
    getLsbD_append_of_le, getLsbD_bitField, Nat.reduceSub, and_self]

/-- MOV (R96). -/
theorem mov_fields {rd rs : RegCode} (hw : w = bitField p ++ 0b111#3 ++ rd ++ rs ++ op) :
    w.getLsbD 31 = p ∧ w.extractLsb' 28 3 = 0b111#3 ∧ w.extractLsb' 22 6 = rd ∧ w.extractLsb' 16 6 = rs := by
  rw [hw]
  simp (disch := decide) only [extractLsb'_append_eq_of_le, extractLsb'_append_eq_of_add_le, extractLsb'_eq_self,
    getLsbD_append_of_le, getLsbD_bitField, Nat.reduceSub, and_self]

/-! ### Each format decoded -/

variable {k : Word}

/-- LS.R in a mode of Table 5-1 (R94, R141). -/
theorem decodeTransfer_encodeLsR {am : AM} {store : Bool} {r : RegCode}
    (hw : w = encodeLsR p (encodeAm am) store i r ++ op) :
    decodeTransfer w k = if store then .stR p am i r else .ldR p am i r := by
  obtain ⟨hp, hmajor, ham, hstore, hi, hr⟩ := encodeLsR_fields hw
  cases am <;>
    simp only [decodeTransfer, decodeLsR, hp, hmajor, ham, hstore, hi, hr, encodeAm, regField_regBits] <;>
    rfl

/-- LS.R in the reserved mode (R141). -/
theorem decodeTransfer_encodeLsR_reserved {store : Bool} {r : RegCode} (hw : w = encodeLsR p 0b011#3 store i r ++ op) :
    decodeTransfer w k = .reservedAm011 p store i r := by
  obtain ⟨hp, hmajor, ham, hstore, hi, hr⟩ := encodeLsR_fields hw
  simp only [decodeTransfer, decodeLsR, hp, hmajor, ham, hstore, hi, hr, regField_regBits]
  rfl

/-- LS.I in a mode of Table 5-2 (R95, R143). -/
theorem decodeTransfer_encodeLsI {amc : AMC} {store : Bool} {r : RegCode}
    (hw : w = encodeLsI p (encodeAmc amc) store i r ++ op) :
    decodeTransfer w k = if store then .stI p amc i r k else .ldI p amc i r k := by
  obtain ⟨hp, hmajor, hamc, hstore, hi, hr⟩ := encodeLsI_fields hw
  cases amc <;> simp only [decodeTransfer, decodeLsI, hp, hmajor, hamc, hstore, hi, hr, encodeAmc, regField_regBits]

/-- LS.I in the reserved mode (R143). -/
theorem decodeTransfer_encodeLsI_reserved {store : Bool} {r : RegCode} (hw : w = encodeLsI p 0b11#2 store i r ++ op) :
    decodeTransfer w k = .reservedAmc11 p store i r k := by
  obtain ⟨hp, hmajor, hamc, hstore, hi, hr⟩ := encodeLsI_fields hw
  simp only [decodeTransfer, decodeLsI, hp, hmajor, hamc, hstore, hi, hr, regField_regBits]
  rfl

/-- ARM.R in a mode of Table 5-3 (R99, R191). -/
theorem decodeTransfer_encodeArm_register {rm : RM} {j : Fin 4} (hw : w = encodeArm p 0b101#3 (encodeRm rm) i j ++ op) :
    decodeTransfer w k = .armR p rm i j := by
  obtain ⟨hp, hmajor, hrm, harm, hi, hspace, hj⟩ := encodeArm_fields hw
  cases rm <;> simp only [decodeTransfer, decode101, decodeArmR, hp, hmajor, hrm, harm, hi, hspace, hj, encodeRm,
    regField_regBits, arjField_arjBits, if_true]

/-- ARM.R in the reserved mode (R191). -/
theorem decodeTransfer_encodeArm_register_reserved {j : Fin 4} (hw : w = encodeArm p 0b101#3 0b11#2 i j ++ op) :
    decodeTransfer w k = .reservedRm11 p i j := by
  obtain ⟨hp, hmajor, hrm, harm, hi, hspace, hj⟩ := encodeArm_fields hw
  simp only [decodeTransfer, decode101, decodeArmR, hp, hmajor, hrm, harm, hi, hspace, hj, regField_regBits,
    arjField_arjBits, if_true]
  rfl

/-- ARM.I in a mode of Table 5-4 (R100, R192). -/
theorem decodeTransfer_encodeArm_constant {rmc : RMC} {j : Fin 4} (hw : w = encodeArm p 0b100#3 (encodeRmc rmc) i j ++ op) :
    decodeTransfer w k = .armI p rmc i j k := by
  obtain ⟨hp, hmajor, hrm, harm, hi, hspace, hj⟩ := encodeArm_fields hw
  cases rmc <;> simp only [decodeTransfer, decode100, decodeArmI, hp, hmajor, hrm, harm, hi, hspace, hj, encodeRmc,
    regField_regBits, arjField_arjBits, if_true]

/-- ARM.I in the reserved mode (R192). -/
theorem decodeTransfer_encodeArm_constant_reserved {j : Fin 4} (hw : w = encodeArm p 0b100#3 0b11#2 i j ++ op) :
    decodeTransfer w k = .reservedRmc11 p i j k := by
  obtain ⟨hp, hmajor, hrm, harm, hi, hspace, hj⟩ := encodeArm_fields hw
  simp only [decodeTransfer, decode100, decodeArmI, hp, hmajor, hrm, harm, hi, hspace, hj, regField_regBits,
    arjField_arjBits, if_true]
  rfl

/-- J.R (R104, R213). -/
theorem decodeTransfer_encodeJump_register {pm : PM} {call : Bool} {c : Cond}
    (hw : w = encodeJump p 0b000#3 (encodePm pm) call i c ++ op) :
    decodeTransfer w k = if call then .callR p pm i c else .jmpR p pm i c := by
  obtain ⟨hp, hmajor, hpm, hcall, hi, hspace, hc⟩ := encodeJump_fields hw
  simp only [decodeTransfer, decodeControl, hp, hmajor, hpm, hcall, hi, hspace, hc, regField_regBits,
    decodePm_encodePm, decodeCond_encodeCond, if_true]

/-- J.I (R105, R214). -/
theorem decodeTransfer_encodeJump_constant {pmc : PMC} {call : Bool} {c : Cond}
    (hw : w = encodeJump p 0b100#3 (encodePmc pmc) call i c ++ op) :
    decodeTransfer w k = if call then .callI p pmc i c k else .jmpI p pmc i c k := by
  obtain ⟨hp, hmajor, hpm, hcall, hi, hspace, hc⟩ := encodeJump_fields hw
  simp only [decodeTransfer, decode100, hp, hmajor, hpm, hcall, hi, hspace, hc, regField_regBits,
    decodePmc_encodePmc, decodeCond_encodeCond]

/-- RET (R106). -/
theorem decodeTransfer_encodeRet {interrupt : Bool} {c : Cond} (hw : w = encodeRet p interrupt c ++ op) :
    decodeTransfer w k = if interrupt then .iret p c else .ret p c := by
  obtain ⟨hp, hmajor, hinterrupt, hspace, hreturn, hc⟩ := encodeRet_fields hw
  simp only [decodeTransfer, decodeControl, hp, hmajor, hinterrupt, hspace, hreturn, hc, decodeCond_encodeCond, if_true]
  rfl

end

/-- The transfer part of a word is read back from bits 31:16 and the constant (R93). -/
theorem decodeTransfer_encodeTransfer {t : Instr} (ht : t.wellFormedTransfer = true) {w k : Word} {op : BitVec 16}
    (hw : w = encodeTransfer t ++ op) (hk : ∀ c, constantOf t = some c → k = c) : decodeTransfer w k = t := by
  cases t with
  | reservedAm011 p store i r => exact decodeTransfer_encodeLsR_reserved hw
  | ldR p am i r => exact decodeTransfer_encodeLsR hw
  | stR p am i r => exact decodeTransfer_encodeLsR hw
  | reservedAmc11 p store i r c => exact hk c rfl ▸ decodeTransfer_encodeLsI_reserved hw
  | ldI p amc i r c => exact hk c rfl ▸ decodeTransfer_encodeLsI hw
  | stI p amc i r c => exact hk c rfl ▸ decodeTransfer_encodeLsI hw
  | mov p rd rs =>
    obtain ⟨hp, hmajor, hrd, hrs⟩ := mov_fields hw
    simp only [decodeTransfer, hp, hmajor, hrd, hrs]
    rfl
  | pswrSet p c =>
    obtain ⟨hp, hmajor, hrd, -, hspace, -⟩ := triple_fields hw
    simp only [decodeTransfer, decode100, hp, hmajor, hrd, hspace, hk c rfl, if_true]
  | pswrRst p c =>
    obtain ⟨hp, hmajor, hrd, -, hspace, -⟩ := triple_fields hw
    simp only [decodeTransfer, decode100, hp, hmajor, hrd, hspace, hk c rfl]
    rfl
  | ldc p rd c =>
    obtain ⟨hp, hmajor, hrd, -, hspace, -⟩ := triple_fields hw
    have hmask : rd ≠ 0b111101#6 ∧ rd ≠ 0b011101#6 := by
      simpa [Instr.wellFormedTransfer, isPswrMaskCode] using ht
    simp only [decodeTransfer, decode100, hp, hmajor, hrd, hspace, hk c rfl, hmask, if_false]
  | reservedRmc11 p i j c => exact hk c rfl ▸ decodeTransfer_encodeArm_constant_reserved hw
  | armI p rmc i j c => exact hk c rfl ▸ decodeTransfer_encodeArm_constant hw
  | nopI p c =>
    obtain ⟨hp, hmajor, -, hnop, hspace, -⟩ := triple_fields hw
    simp only [decodeTransfer, decode100, decodeArmI, hp, hmajor, hnop, hspace, hk c rfl]
    rfl
  | jmpI p pmc i c k => exact hk k rfl ▸ decodeTransfer_encodeJump_constant hw
  | callI p pmc i c k => exact hk k rfl ▸ decodeTransfer_encodeJump_constant hw
  | reserved100 p a b c =>
    obtain ⟨hp, hmajor, ha, -, hspace, hb⟩ := triple_fields hw
    simp only [decodeTransfer, decode100, hp, hmajor, ha, hspace, hb, hk c rfl]
    rfl
  | reservedRm11 p i j => exact decodeTransfer_encodeArm_register_reserved hw
  | armR p rm i j => exact decodeTransfer_encodeArm_register hw
  | nopR p =>
    obtain ⟨hp, hmajor, -, hnop, hspace, -⟩ := triple_fields hw
    simp only [decodeTransfer, decode101, decodeArmR, hp, hmajor, hnop, hspace, if_true]
    rfl
  | reserved101 p bits =>
    obtain ⟨hp, hmajor, hbits, hspace, -⟩ := bits_fields hw
    have hreserved : bits.extractLsb' 4 2 ≠ 0b01#2 := by
      simpa [Instr.wellFormedTransfer, isReserved101] using ht
    simp only [decodeTransfer, decode101, hp, hmajor, hbits, hspace, hreserved, if_false]
  | jmpR p pm i c => exact decodeTransfer_encodeJump_register hw
  | callR p pm i c => exact decodeTransfer_encodeJump_register hw
  | ret p c => exact decodeTransfer_encodeRet hw
  | iret p c => exact decodeTransfer_encodeRet hw
  | reserved000 p bits =>
    obtain ⟨hp, hmajor, hbits, hjump, hreturn⟩ := bits_fields hw
    have hreserved : bits.extractLsb' 4 2 ≠ 0b10#2 ∧ bits.extractLsb' 4 7 ≠ 0b0111111#7 := by
      simpa [Instr.wellFormedTransfer, isReserved000] using ht
    simp only [decodeTransfer, decodeControl, hp, hmajor, hbits, hjump, hreturn, hreserved, if_false]
  | udi p bits =>
    obtain ⟨hp, hmajor, hbits, -⟩ := bits_fields hw
    simp only [decodeTransfer, hp, hmajor, hbits]
  | _ => cases ht

end Sys2Proof
end

section
/-!
The OP part (R108 to R111) and the whole word: an OP row is told by W, bit 13 and the code in 12:9, or it is a shift by its
type, and the null OP belongs to no OP row (R248). With the transfer part this gives the instruction of an encoded word.
-/

namespace Sys2Proof

open BitVec (extractLsb'_append_eq_of_le extractLsb'_append_eq_of_add_le extractLsb'_append_extractLsb'_eq_extractLsb'
  extractLsb'_eq_self)

/-! ### The fields of the OP formats -/

section
variable {w : Word} {hi : BitVec 16}

/-- Shift operations (R108). -/
theorem encodeShift_fields {st : BitVec 2} {count : BitVec 6} {src dst : RegIx}
    (hw : w = hi ++ encodeShift st count src dst) :
    w.extractLsb' 14 2 = 0b00#2 ∧ w.extractLsb' 12 2 = st ∧ w.extractLsb' 6 6 = count ∧
      w.extractLsb' 3 3 = regBits src ∧ w.extractLsb' 0 3 = regBits dst := by
  rw [hw]
  simp (disch := decide) only [encodeShift, extractLsb'_append_eq_of_le, extractLsb'_append_eq_of_add_le,
    extractLsb'_eq_self, Nat.reduceSub, and_self]

/-- Logical (R109) and arithmetical (R110) operations. -/
theorem encodeAlu_fields {f : BitVec 2} {arith : Bool} {code : BitVec 4} {s2 s1 d : RegIx}
    (hw : w = hi ++ encodeAlu f arith code s2 s1 d) :
    w.extractLsb' 14 2 = f ∧ w.getLsbD 13 = arith ∧ w.extractLsb' 9 4 = code ∧ w.extractLsb' 6 3 = regBits s2 ∧
      w.extractLsb' 3 3 = regBits s1 ∧ w.extractLsb' 0 3 = regBits d := by
  rw [hw]
  simp (disch := decide) only [encodeAlu, extractLsb'_append_eq_of_le, extractLsb'_append_eq_of_add_le,
    extractLsb'_eq_self, getLsbD_append_of_le, getLsbD_append_of_lt, getLsbD_bitField, Nat.reduceSub, and_self]

end

/-! ### The null OP -/

theorem extractLsb'_extractLsb' {n start len i m : Nat} {x : BitVec n} (h : i + m ≤ len) :
    (x.extractLsb' start len).extractLsb' i m = x.extractLsb' (start + i) m := by
  refine BitVec.eq_of_getLsbD_eq fun j hj => ?_
  have hlen : i + j < len := by omega
  simp only [BitVec.getLsbD_extractLsb', hj, hlen, decide_true, Bool.true_and, Nat.add_assoc]

theorem regField_inj {a b : BitVec 3} : regField a = regField b ↔ a = b := by
  revert a b
  decide

/-- The null OP is a rotate (W = 00, type 00) by a zero count from a register to itself (R248). -/
theorem isNullOp_iff (w : Word) :
    isNullOp w = true ↔ w.extractLsb' 14 2 = 0#2 ∧ w.extractLsb' 12 2 = 0#2 ∧
      isNullRot (w.extractLsb' 6 6) (regField (w.extractLsb' 3 3)) (regField (w.extractLsb' 0 3)) = true := by
  have hbits : w.extractLsb' 6 10 = 0#10 ↔
      w.extractLsb' 14 2 = 0#2 ∧ w.extractLsb' 12 2 = 0#2 ∧ w.extractLsb' 6 6 = 0#6 := by
    constructor
    · intro h
      have zero {i n : Nat} (hi : i + n ≤ 10) : w.extractLsb' (6 + i) n = 0#n := by
        rw [← extractLsb'_extractLsb' hi, h, BitVec.extractLsb'_zero]
      exact ⟨zero (i := 8) (by decide), zero (i := 6) (by decide), zero (i := 0) (by decide)⟩
    · rintro ⟨hform, htype, hcount⟩
      rw [← extractLsb'_append_extractLsb'_eq_extractLsb' (start₂ := 12) (len₂ := 4) (len₁ := 6) rfl,
        ← extractLsb'_append_extractLsb'_eq_extractLsb' (start₂ := 14) (start₁ := 12) (len₂ := 2) (len₁ := 2) rfl,
        hform, htype, hcount]
      rfl
  simp only [isNullOp, isNullRot, Bool.and_eq_true, beq_iff_eq, hbits, regField_inj, and_assoc]

theorem isNullOp_encodeShift {w : Word} {hi : BitVec 16} {st : BitVec 2} {count : BitVec 6} {src dst : RegIx}
    (hw : w = hi ++ encodeShift st count src dst) : isNullOp w = (st == 0#2 && isNullRot count src dst) := by
  obtain ⟨hform, hst, hcount, hsrc, hdst⟩ := encodeShift_fields hw
  rw [Bool.eq_iff_iff, isNullOp_iff, hform, hst, hcount, hsrc, hdst]
  simp only [regField_regBits, true_and, Bool.and_eq_true, beq_iff_eq]

theorem isNullOp_encodeAlu {w : Word} {hi : BitVec 16} {f : BitVec 2} {arith : Bool} {code : BitVec 4} {s2 s1 d : RegIx}
    (hw : w = hi ++ encodeAlu f arith code s2 s1 d) (hf : f ≠ 0b00#2) : isNullOp w = false := by
  obtain ⟨hform, -⟩ := encodeAlu_fields hw
  rw [← Bool.not_eq_true, isNullOp_iff, hform]
  exact fun h => hf h.1

/-! ### Rows by their fields -/

/-- The OP row of a shift word, from its fields. -/
def shiftRow (st : BitVec 2) (count : BitVec 6) (src dst : RegIx) (t : Instr) : Instr :=
  match st with
  | 0b00#2 => .rot count src dst t
  | 0b01#2 => .lsh count src dst t
  | 0b10#2 => .ash count src dst t
  | _ => .lshc count src dst t

/-- The OP row of a logical or arithmetical word, from its fields; `f` is W. -/
def aluRow (f : BitVec 2) (arith : Bool) (code : BitVec 4) (s2 s1 d : RegIx) (t : Instr) : Instr :=
  if arith && code.extractLsb' 1 3 == 0b101#3 then .reservedAop101x f (code.getLsbD 0) s2 s1 d t
  else if arith && code.extractLsb' 2 2 == 0b11#2 && code.getLsbD 0 then .reservedAop11x1 f (code.getLsbD 1) s2 s1 d t
  else if arith && code.extractLsb' 1 3 == 0b111#3 then .reservedAop111x f s2 s1 d t
  else if f = 0b11#2 then .w11 arith code s2 s1 d t
  else if arith then decodeArith code (f.getLsbD 1) s2 s1 d t
  else decodeLogical code (f.getLsbD 1) s2 s1 d t

/-- The OP part is decoded from its fields, and W = 00 tells a shift (R111). -/
theorem decodeOp_eq (w : Word) (t : Instr) :
    decodeOp w t =
      if w.extractLsb' 14 2 = 0b00#2 then
        shiftRow (w.extractLsb' 12 2) (w.extractLsb' 6 6) (regField (w.extractLsb' 3 3)) (regField (w.extractLsb' 0 3)) t
      else
        aluRow (w.extractLsb' 14 2) (w.getLsbD 13) (w.extractLsb' 9 4) (regField (w.extractLsb' 6 3))
          (regField (w.extractLsb' 3 3)) (regField (w.extractLsb' 0 3)) t := by
  simp (disch := decide) only [decodeOp, aluRow, extractLsb'_extractLsb', BitVec.getLsbD_extractLsb']
  rfl

theorem decodeOp_encodeShift {w : Word} {hi : BitVec 16} {st : BitVec 2} {count : BitVec 6} {src dst : RegIx}
    (hw : w = hi ++ encodeShift st count src dst) (t : Instr) : decodeOp w t = shiftRow st count src dst t := by
  obtain ⟨hform, hst, hcount, hsrc, hdst⟩ := encodeShift_fields hw
  simp only [decodeOp_eq, hform, hst, hcount, hsrc, hdst, if_true, regField_regBits]

theorem decodeOp_encodeAlu {w : Word} {hi : BitVec 16} {f : BitVec 2} {arith : Bool} {code : BitVec 4} {s2 s1 d : RegIx}
    (hw : w = hi ++ encodeAlu f arith code s2 s1 d) (hf : f ≠ 0b00#2) (t : Instr) :
    decodeOp w t = aluRow f arith code s2 s1 d t := by
  obtain ⟨hform, harith, hcode, hs2, hs1, hd⟩ := encodeAlu_fields hw
  simp only [decodeOp_eq, hform, harith, hcode, hs2, hs1, hd, hf, if_false, regField_regBits]

/-- The first three tests of `aluRow` are for the reserved AOP codes (R272). -/
theorem isReservedAop_eq (code : BitVec 4) :
    isReservedAop code = (code.extractLsb' 1 3 == 0b101#3 || code.extractLsb' 2 2 == 0b11#2 && code.getLsbD 0 ||
      code.extractLsb' 1 3 == 0b111#3) := by
  revert code
  decide

/-- With no reserved AOP code the row is told by W and bit 13 (R137, R244). -/
theorem aluRow_of_not_reserved {f : BitVec 2} {arith : Bool} {code : BitVec 4} (h : (arith && isReservedAop code) = false)
    (s2 s1 d : RegIx) (t : Instr) :
    aluRow f arith code s2 s1 d t =
      if f = 0b11#2 then .w11 arith code s2 s1 d t
      else if arith then decodeArith code (f.getLsbD 1) s2 s1 d t
      else decodeLogical code (f.getLsbD 1) s2 s1 d t := by
  cases arith with
  | false => rfl
  | true =>
    simp only [Bool.true_and, isReservedAop_eq, Bool.or_eq_false_iff] at h
    obtain ⟨⟨h101x, h11x1⟩, h111x⟩ := h
    simp only [aluRow, Bool.true_and, h101x, h11x1, h111x, Bool.false_eq_true, if_false]

/-! ### Every OP row encoded -/

/-- An OP row is the row of the fields that the encoder gives it, and those are not the null OP's. -/
theorem opRow_of_encodeOp {i : Instr} (hwf : i.wellFormed = true) (hop : i.isTransfer = false) :
    (∃ st count src dst, encodeOp i = encodeShift st count src dst ∧ (st == 0b00#2 && isNullRot count src dst) = false ∧
        shiftRow st count src dst i.transferOf = i) ∨
      ∃ f arith code s2 s1 d, encodeOp i = encodeAlu f arith code s2 s1 d ∧ f ≠ 0b00#2 ∧
        aluRow f arith code s2 s1 d i.transferOf = i := by
  cases i with
  | rot count src dst t =>
    simp only [Instr.wellFormed, Bool.and_eq_true, Bool.not_eq_true'] at hwf
    exact .inl ⟨_, _, _, _, rfl, hwf.1, rfl⟩
  | lsh count src dst t => exact .inl ⟨_, _, _, _, rfl, rfl, rfl⟩
  | ash count src dst t => exact .inl ⟨_, _, _, _, rfl, rfl, rfl⟩
  | lshc count src dst t => exact .inl ⟨_, _, _, _, rfl, rfl, rfl⟩
  | reservedAop101x f x s2 s1 d t =>
    simp only [Instr.wellFormed, Bool.and_eq_true, bne_iff_ne] at hwf
    exact .inr ⟨_, _, _, _, _, _, rfl, hwf.1, by cases x <;> rfl⟩
  | reservedAop11x1 f x s2 s1 d t =>
    simp only [Instr.wellFormed, Bool.and_eq_true, bne_iff_ne] at hwf
    exact .inr ⟨_, _, _, _, _, _, rfl, hwf.1, by cases x <;> rfl⟩
  | reservedAop111x f s2 s1 d t =>
    simp only [Instr.wellFormed, Bool.and_eq_true, bne_iff_ne] at hwf
    exact .inr ⟨_, _, _, _, _, _, rfl, hwf.1, rfl⟩
  | w11 arith code s2 s1 d t =>
    simp only [Instr.wellFormed, Bool.and_eq_true, Bool.not_eq_true'] at hwf
    exact .inr ⟨_, _, _, _, _, _, rfl, by decide, aluRow_of_not_reserved hwf.1 s2 s1 d t⟩
  | _ => first
    | exact .inr ⟨_, _, _, _, _, _, rfl, by decide, rfl⟩
    | cases hop

/-- The OP part of a word is read back from bits 15:0 (R111), where it is not null (R248). -/
theorem decodeOp_encodeOp {i : Instr} (hwf : i.wellFormed = true) (hop : i.isTransfer = false) {w : Word}
    {hi : BitVec 16} (hw : w = hi ++ encodeOp i) : isNullOp w = false ∧ decodeOp w i.transferOf = i := by
  rcases opRow_of_encodeOp hwf hop with
    ⟨st, count, src, dst, henc, hnull, hrow⟩ | ⟨f, arith, code, s2, s1, d, henc, hf, hrow⟩
  · rw [henc] at hw
    exact ⟨(isNullOp_encodeShift hw).trans hnull, (decodeOp_encodeShift hw _).trans hrow⟩
  · rw [henc] at hw
    exact ⟨isNullOp_encodeAlu hw hf, (decodeOp_encodeAlu hw hf _).trans hrow⟩

/-- A bare transfer row has the null OP (R248). -/
theorem isNullOp_of_isTransfer {i : Instr} (h : i.isTransfer = true) {w : Word} {hi : BitVec 16}
    (hw : w = hi ++ encodeOp i) : isNullOp w = true := by
  have henc : encodeOp i = encodeShift 0 0 0 0 := by
    cases i <;> first | rfl | cases h
  rw [henc] at hw
  exact isNullOp_encodeShift hw

/-! ### Whole words -/

theorem encodeTransfer_transferOf (i : Instr) : encodeTransfer i.transferOf = encodeTransfer i := by
  cases i <;> rfl

theorem constantOf_transferOf (i : Instr) : constantOf i.transferOf = constantOf i := by
  cases i <;> rfl

/-- A well-formed word has a well-formed transfer part. -/
theorem wellFormedTransfer_transferOf {i : Instr} (h : i.wellFormed = true) : i.transferOf.wellFormedTransfer = true := by
  cases i <;>
    first
    | exact h
    | (simp only [Instr.wellFormed, Bool.and_eq_true] at h
       exact h.2)

/-- The word of an instruction, with its constant, decodes to the instruction (R90, R92, R137). -/
theorem decode_encodeWord {i : Instr} (hi : i.wellFormed = true) {k : Word} (hk : ∀ c, constantOf i = some c → k = c) :
    decode (encodeWord i) k = i := by
  have ht : decodeTransfer (encodeWord i) k = i.transferOf := by
    refine decodeTransfer_encodeTransfer (op := encodeOp i) (wellFormedTransfer_transferOf hi) ?_ ?_
    · rw [encodeTransfer_transferOf, encodeWord]
    · rwa [constantOf_transferOf]
  rw [decode, ht]
  cases h : i.isTransfer with
  | true =>
    rw [isNullOp_of_isTransfer h (w := encodeWord i) rfl]
    exact Machine.transferOf_of_isTransfer h
  | false =>
    obtain ⟨hnull, hrow⟩ := decodeOp_encodeOp hi h (w := encodeWord i) rfl
    rw [hnull]
    exact hrow

/-- Settles O1: the word in the low half, with the constant or anything in the high half; and a short word in the high half. -/
theorem decodeOfEncodeIsTheInstruction : Obligations.DecodeOfEncodeIsTheInstruction := by
  intro i hi
  refine ⟨fun k hk => ?_, fun hshort low => ?_⟩
  · have hword : fetchedWord (k ++ encodeWord i) false = encodeWord i := BitVec.extractLsb'_append_eq_right
    have hconstant : (k ++ encodeWord i).extractLsb' 32 32 = k := BitVec.extractLsb'_append_eq_left
    rw [decodeFetch, hword, hconstant, decode_encodeWord hi hk]
    rfl
  · have hword : fetchedWord (encodeWord i ++ low) true = encodeWord i := BitVec.extractLsb'_append_eq_left
    have hlong : isLongWord (encodeWord i) = false := by
      rw [Laws.LongFormat.all i, hshort]
      rfl
    rw [decodeFetch, hword, hlong, decode_encodeWord hi (by simp [hshort])]
    rfl

end Sys2Proof
end

section
/-!
Every word decodes to a well-formed term (R91, R92, R130, R137): each part of the decoder yields rows that stand for words,
with the constant of a long format and bit 31 as the P bit.
-/

namespace Sys2Proof

/-! ### The transfer part -/

/-- The transfer row `t` stands for a word whose constant is `constant` and whose P bit is `p`. -/
def StandsFor (t : Instr) (constant : Option Word) (p : Bool) : Prop :=
  t.wellFormedTransfer = true ∧ constantOf t = constant ∧ Machine.parallelOf t = p

theorem standsFor_decodeLsR (w : Word) : StandsFor (decodeLsR w) none (w.getLsbD 31) := by
  unfold decodeLsR
  cases w.getLsbD 25 <;> dsimp only <;> split <;> exact ⟨rfl, rfl, rfl⟩

theorem standsFor_decodeLsI (w k : Word) : StandsFor (decodeLsI w k) (some k) (w.getLsbD 31) := by
  unfold decodeLsI
  cases w.getLsbD 25 <;> dsimp only <;> split <;> exact ⟨rfl, rfl, rfl⟩

theorem standsFor_decodeControl (w : Word) : StandsFor (decodeControl w) none (w.getLsbD 31) := by
  unfold decodeControl
  dsimp only
  split
  · split <;> exact ⟨rfl, rfl, rfl⟩
  · next hjump =>
    split
    · split <;> exact ⟨rfl, rfl, rfl⟩
    · next hreturn =>
      refine ⟨?_, rfl, rfl⟩
      simp (disch := decide) only [Instr.wellFormedTransfer, isReserved000, extractLsb'_extractLsb', Bool.and_eq_true,
        bne_iff_ne]
      exact ⟨hjump, hreturn⟩

theorem standsFor_decodeArmI (w k : Word) : StandsFor (decodeArmI w k) (some k) (w.getLsbD 31) := by
  unfold decodeArmI
  dsimp only
  split
  · split <;> exact ⟨rfl, rfl, rfl⟩
  · exact ⟨rfl, rfl, rfl⟩

theorem standsFor_decodeArmR (w : Word) : StandsFor (decodeArmR w) none (w.getLsbD 31) := by
  unfold decodeArmR
  dsimp only
  split
  · split <;> exact ⟨rfl, rfl, rfl⟩
  · exact ⟨rfl, rfl, rfl⟩

theorem standsFor_decode100 (w k : Word) : StandsFor (decode100 w k) (some k) (w.getLsbD 31) := by
  unfold decode100
  dsimp only
  split
  · split
    · exact ⟨rfl, rfl, rfl⟩
    · next hset =>
      split
      · exact ⟨rfl, rfl, rfl⟩
      · next hreset =>
        refine ⟨?_, rfl, rfl⟩
        simp [Instr.wellFormedTransfer, isPswrMaskCode, hset, hreset]
  · exact standsFor_decodeArmI w k
  · split <;> exact ⟨rfl, rfl, rfl⟩
  · exact ⟨rfl, rfl, rfl⟩

theorem standsFor_decode101 (w : Word) : StandsFor (decode101 w) none (w.getLsbD 31) := by
  unfold decode101
  split
  · exact standsFor_decodeArmR w
  · next harm =>
    refine ⟨?_, rfl, rfl⟩
    simp (disch := decide) only [Instr.wellFormedTransfer, isReserved101, extractLsb'_extractLsb', bne_iff_ne]
    exact harm

/-- The transfer part of a word, whatever its major code (R91, R93). -/
theorem standsFor_decodeTransfer (w k : Word) :
    StandsFor (decodeTransfer w k)
      (if w.extractLsb' 28 3 = 0b100#3 ∨ w.extractLsb' 28 3 = 0b110#3 then some k else none) (w.getLsbD 31) := by
  unfold decodeTransfer
  split
  · next h => rw [h]; exact standsFor_decodeControl w
  · next h => rw [h]; exact ⟨rfl, rfl, rfl⟩
  · next h => rw [h]; exact standsFor_decodeLsR w
  · next h => rw [h]; exact standsFor_decodeLsR w
  · next h => rw [h]; exact standsFor_decode100 w k
  · next h => rw [h]; exact standsFor_decode101 w
  · next h => rw [h]; exact standsFor_decodeLsI w k
  · next hlong _ hlong' => exact ⟨rfl, (if_neg (not_or.2 ⟨hlong, hlong'⟩)).symm, rfl⟩

/-! ### The OP part -/

theorem decodeLogical_parts (lop : BitVec 4) (flags : Bool) (s2 s1 d : RegIx) (t : Instr) :
    (decodeLogical lop flags s2 s1 d t).wellFormed = t.wellFormedTransfer ∧
      (decodeLogical lop flags s2 s1 d t).transferOf = t := by
  unfold decodeLogical
  cases flags <;> split <;> exact ⟨rfl, rfl⟩

theorem decodeArith_parts (aop : BitVec 4) (flags : Bool) (s2 s1 d : RegIx) (t : Instr) :
    (decodeArith aop flags s2 s1 d t).wellFormed = t.wellFormedTransfer ∧
      (decodeArith aop flags s2 s1 d t).transferOf = t := by
  unfold decodeArith
  cases flags <;> split <;> exact ⟨rfl, rfl⟩

theorem shiftRow_parts {st : BitVec 2} {count : BitVec 6} {src dst : RegIx}
    (hnull : (st == 0b00#2 && isNullRot count src dst) = false) {t : Instr} (ht : t.wellFormedTransfer = true) :
    (shiftRow st count src dst t).wellFormed = true ∧ (shiftRow st count src dst t).transferOf = t := by
  unfold shiftRow
  split
  · have hrot : isNullRot count src dst = false := by simpa using hnull
    simp [Instr.wellFormed, Instr.transferOf, hrot, ht]
  all_goals exact ⟨ht, rfl⟩

theorem aluRow_parts {f : BitVec 2} (hf : f ≠ 0b00#2) (arith : Bool) (code : BitVec 4) (s2 s1 d : RegIx) {t : Instr}
    (ht : t.wellFormedTransfer = true) :
    (aluRow f arith code s2 s1 d t).wellFormed = true ∧ (aluRow f arith code s2 s1 d t).transferOf = t := by
  cases hreserved : arith && isReservedAop code with
  | true =>
    obtain ⟨rfl, hcode⟩ := Bool.and_eq_true_iff.1 hreserved
    rw [isReservedAop_eq] at hcode
    have hwf : (f != 0b00#2 && t.wellFormedTransfer) = true := by simp [hf, ht]
    simp only [aluRow, Bool.true_and]
    split
    · exact ⟨hwf, rfl⟩
    · next h101x =>
      split
      · exact ⟨hwf, rfl⟩
      · next h11x1 =>
        rw [Bool.not_eq_true] at h101x h11x1
        rw [h101x, h11x1, Bool.or_self, Bool.false_or] at hcode
        rw [if_pos hcode]
        exact ⟨hwf, rfl⟩
  | false =>
    rw [aluRow_of_not_reserved hreserved]
    split
    · exact ⟨by simp only [Instr.wellFormed, hreserved, ht, Bool.not_false, Bool.and_self], rfl⟩
    · split
      · exact ht ▸ decodeArith_parts ..
      · exact ht ▸ decodeLogical_parts ..

/-- Beside a well-formed transfer part, an OP part that is not null is a well-formed word (R111, R248). -/
theorem decodeOp_parts {w : Word} (hnull : isNullOp w = false) {t : Instr} (ht : t.wellFormedTransfer = true) :
    (decodeOp w t).wellFormed = true ∧ (decodeOp w t).transferOf = t := by
  rw [decodeOp_eq]
  split
  · next hform =>
    refine shiftRow_parts ?_ ht
    rw [← Bool.not_eq_true, isNullOp_iff] at hnull
    simpa [hform] using hnull
  · next hform => exact aluRow_parts hform _ _ _ _ _ ht

theorem wellFormed_of_wellFormedTransfer {t : Instr} (h : t.wellFormedTransfer = true) : t.wellFormed = true := by
  cases t <;> first | rfl | exact h | cases h

/-- Settles O2: the transfer row of the word stands for it, and the OP part keeps its constant and its P bit. -/
theorem everyWordIsAWellFormedInstruction : Obligations.EveryWordIsAWellFormedInstruction := by
  intro w k
  obtain ⟨ht, hconstant, hp⟩ := standsFor_decodeTransfer w k
  unfold decode
  cases hnull : isNullOp w with
  | true => exact ⟨wellFormed_of_wellFormedTransfer ht, hconstant, hp⟩
  | false =>
    obtain ⟨hwf, htransfer⟩ := decodeOp_parts hnull ht
    refine ⟨hwf, ?_, ?_⟩
    · rw [← hconstant, ← constantOf_transferOf]
      exact congrArg constantOf htransfer
    · rw [← hp, ← (Machine.parallelOf_parts _).1]
      exact congrArg Machine.parallelOf htransfer

end Sys2Proof
end

section
/-!
Reserved encodings (R130, R131, R132), the no-operations (R134, R195, R196, R248) and words written out in the spec.
-/

namespace Sys2Proof.Machine

/-! ### When a word raises IllegalInstruction -/

/-- A sequence whose parts do not raise `e` does not raise it. -/
theorem andThen_ne_fault {α β : Type} {r : Result α} {f : α → Result β} {e : Fault} (hr : r ≠ .fault e)
    (hf : ∀ a, f a ≠ .fault e) : andThen r f ≠ .fault e := by
  cases r with
  | next a => exact hf a
  | fault e' => exact fun h => hr (congrArg _ (Host.Outcome.fault.inj h))
  | refused _ => exact nofun

theorem access_ne_illegal (s : State) (a : Word) (wide : Bool) : s.access a wide ≠ .fault .illegalInstruction := by
  have word (a : Word) : s.accessWord a ≠ .fault .illegalInstruction := by
    rcases accessWord_cases s a with ⟨-, -, -, h⟩ | ⟨-, -, -, h⟩ | ⟨-, -, -, h⟩ <;> simp [h]
  cases wide with
  | true => exact andThen_ne_fault (word _) fun _ => word _
  | false => exact word a

/-- Committing the parts of a word raises no IllegalInstruction: that comes before (R125, R132). -/
theorem commit_ne_illegal (t : Plan) (o : OpEffect) (s : State) : commit t o s ≠ .fault .illegalInstruction := by
  unfold commit
  split
  · exact nofun
  · split
    · exact nofun
    · split
      · exact nofun
      · exact andThen_ne_fault (andThen_ne_fault (access_ne_illegal _ _ _) fun _ => nofun) fun _ => nofun
      · exact andThen_ne_fault (andThen_ne_fault (access_ne_illegal _ _ _) fun _ => nofun) fun _ => nofun

/-- Beside an allowed P bit a word raises IllegalInstruction exactly when one of its parts does (R125, R132). -/
theorem exec_eq_illegal_iff {i : Instr} {s : State} (hp : PAllowed (parallelOf i) s) :
    exec i s = .fault .illegalInstruction ↔
      transferPart i.transferOf s = .fault .illegalInstruction ∨ opPart i s = .fault .illegalInstruction := by
  have hallowed : ¬ (parallelOf i && s.par.pMode == .refuse) = true := by
    cases h : parallelOf i
    · simp
    · simp [hp h]
  rw [exec_eq_runWord]
  unfold runWord
  rw [if_neg hallowed]
  rcases transferPart_cases i.transferOf s with ⟨r, h⟩ | h | ⟨plan, h, -⟩ <;> rw [h] <;> cases opPart i s <;>
    simp [commit_ne_illegal]

/-! ### Reserved register codes -/

/-- What the DMA agent's guard makes of a plan is no fault. -/
theorem guardDma_ne_fault (s : State) (touches : Bool) (plan : Plan) (e : Fault) : s.guardDma touches plan ≠ .fault e := by
  unfold State.guardDma
  split <;> exact nofun

/-- A control row is no fault, its condition true or false (R229). -/
theorem planIf_ne_fault (c : Cond) (s : State) (plan : Plan) (e : Fault) : planIf c s plan ≠ .fault e := by
  unfold planIf
  split <;> exact nofun

theorem exists_src_of_not_reserved {r : RegCode} (h : ¬ isReservedSource r = true) : ∃ x, srcOf r = some x :=
  Option.ne_none_iff_exists'.1 (mt (srcOf_eq_none_iff r).1 h)

theorem exists_dst_of_not_reserved {r : RegCode} (h : ¬ isReservedDestination r = true) : ∃ d, dstOf r = some d :=
  Option.ne_none_iff_exists'.1 (mt (dstOf_eq_none_iff r).1 h)

/-- A transfer part raises IllegalInstruction exactly when it holds a reserved encoding (R130, R131). -/
theorem transferPart_eq_illegal_iff {t : Instr} {s : State} :
    transferPart t s = .fault .illegalInstruction ↔ t.isReservedTransfer = true := by
  refine ⟨fun h => ?_, fun h => transferPart_of_reserved h s⟩
  by_contra hlegal
  cases t with
  | ldR p am i r =>
    obtain ⟨d, hd⟩ := exists_dst_of_not_reserved hlegal
    exact guardDma_ne_fault _ _ _ _ ((transferPart_ldR hd p am i s).symm.trans h)
  | stR p am i r =>
    obtain ⟨x, hx⟩ := exists_src_of_not_reserved hlegal
    exact guardDma_ne_fault _ _ _ _ ((transferPart_stR hx p am i s).symm.trans h)
  | ldI p amc i r k =>
    obtain ⟨d, hd⟩ := exists_dst_of_not_reserved hlegal
    exact guardDma_ne_fault _ _ _ _ ((transferPart_ldI hd p amc i k s).symm.trans h)
  | stI p amc i r k =>
    obtain ⟨x, hx⟩ := exists_src_of_not_reserved hlegal
    exact guardDma_ne_fault _ _ _ _ ((transferPart_stI hx p amc i k s).symm.trans h)
  | mov p rd rs =>
    simp only [Instr.isReservedTransfer, Bool.or_eq_true, not_or] at hlegal
    obtain ⟨d, hd⟩ := exists_dst_of_not_reserved hlegal.1
    obtain ⟨x, hx⟩ := exists_src_of_not_reserved hlegal.2
    rw [transferPart_mov hd hx] at h
    split at h
    · exact guardDma_ne_fault _ _ _ _ h
    · cases h
  | ldc p rd k =>
    obtain ⟨d, hd⟩ := exists_dst_of_not_reserved hlegal
    rw [transferPart_ldc hd] at h
    split at h
    · cases h
    · exact guardDma_ne_fault _ _ _ _ h
  | jmpR p pm i c => exact planIf_ne_fault _ _ _ _ h
  | jmpI p pmc i c k => exact planIf_ne_fault _ _ _ _ h
  | callR p pm i c => exact planIf_ne_fault _ _ _ _ h
  | callI p pmc i c k => exact planIf_ne_fault _ _ _ _ h
  | ret p c => exact planIf_ne_fault _ _ _ _ h
  | iret p c => exact planIf_ne_fault _ _ _ _ h
  | _ => first | exact hlegal rfl | cases h

/-- A transfer row alone raises IllegalInstruction exactly when it holds a reserved encoding (R130, R131, R132). -/
theorem exec_transfer_eq_illegal_iff {t : Instr} {s : State} (ht : t.isTransfer = true) (hp : PAllowed (parallelOf t) s) :
    exec t s = .fault .illegalInstruction ↔ t.isReservedTransfer = true := by
  rw [exec_eq_illegal_iff hp, transferOf_of_isTransfer ht, transferPart_eq_illegal_iff, opPart_of_isTransfer ht]
  exact or_iff_left nofun

theorem isReservedSource_iff (r : RegCode) :
    isReservedSource r = true ↔ r = 0b001101#6 ∨ r = 0b001110#6 ∨ r = 0b011101#6 ∨ 0b110000 ≤ r.toNat := by
  simp only [isReservedSource, Bool.or_eq_true, beq_iff_eq, decide_eq_true_eq, or_assoc]

theorem isReservedDestination_iff (r : RegCode) :
    isReservedDestination r = true ↔
      r = 0b001101#6 ∨ r = 0b001110#6 ∨ r = 0b011110#6 ∨ (0b110000 ≤ r.toNat ∧ r ≠ 0b111101#6) := by
  simp only [isReservedDestination, Bool.or_eq_true, Bool.and_eq_true, beq_iff_eq, bne_iff_ne, decide_eq_true_eq, or_assoc]

/-- Settles O4: each row raises exactly on its reserved encodings, which are its reserved register codes. -/
theorem reservedRegisterCodesAreTheSpecs : Obligations.ReservedRegisterCodesAreTheSpecs := by
  intro p am amc i r x k s hp
  have raises (t : Instr) (ht : t.isTransfer = true) (hpt : parallelOf t = p) :
      exec t s = .fault .illegalInstruction ↔ t.isReservedTransfer = true :=
    exec_transfer_eq_illegal_iff ht (hpt ▸ hp)
  refine ⟨(raises _ rfl rfl).trans (isReservedSource_iff r), (raises _ rfl rfl).trans (isReservedSource_iff r),
    (raises _ rfl rfl).trans (isReservedDestination_iff r), (raises _ rfl rfl).trans (isReservedDestination_iff r),
    (raises _ rfl rfl).trans (isReservedDestination_iff r), (raises _ rfl rfl).trans ?_⟩
  exact Bool.or_eq_true_iff.trans (or_congr (isReservedDestination_iff r) (isReservedSource_iff x))

/-- Settles O6: a reserved encoding is a part that raises, whatever the other part does. -/
theorem reservedEncodingsFault : Obligations.ReservedEncodingsFault :=
  fun _ s _ hreserved hp => (exec_eq_illegal_iff hp).2 (parts_of_reserved hreserved s)

/-! ### The no-operations -/

/-- A row whose transfer part does nothing leaves the state as it was (R134, R195, R196). -/
theorem exec_of_noTransfer {t : Instr} {s : State} (ht : t.isTransfer = true) (hp : PAllowed (parallelOf t) s)
    (hplan : transferPart t s = noTransfer) : exec t s = .next s :=
  exec_of_plan ht hp hplan

/-- Settles O30: NOP.R and NOP.I plan nothing, and the null OP is that of a bare transfer row. -/
theorem nopsChangeNothing : Obligations.NopsChangeNothing := by
  intro p k s
  refine ⟨fun hp => ⟨exec_of_noTransfer rfl hp rfl, exec_of_noTransfer rfl hp rfl⟩, fun r t ht => ?_⟩
  refine exec_congr rfl (congrArg (transferPart · s) (transferOf_of_isTransfer ht).symm) ?_
  rw [opPart_of_isTransfer ht]
  simp [opPart, opRot, isNullRot]

/-! ### Words of the spec -/

/-- Settles O3: each word decoded (95_test_vectors.md part 2). -/
theorem specWordsDecode : Obligations.SpecWordsDecode := by
  unfold Obligations.SpecWordsDecode
  decide

end Sys2Proof.Machine
end

section
/-!
Loads and stores of general registers at a constant address: LD.I and ST.I in the modes of Table 5-2 (R143 to R146).
-/

namespace Sys2Proof.Machine

/-- LD.I of a general register: the word at the mode's address, and the mode's write of AR[i] (R143, R145). -/
theorem exec_ldI_gr {p : Bool} {s : State} (hp : PAllowed p s) (amc : AMC) (i j : RegIx) (k : Word)
    (ha : Accessible s (amcAddress amc (s.readAr i) k) false) :
    exec (.ldI p amc i (codeGr j) k) s =
      .next (((amcUpdate amc (s.readAr i) k).elim s (s.setAr i)).setGr j (s.word (amcAddress amc (s.readAr i) k))) := by
  refine (exec_load (t := .ldI p amc i (codeGr j) k) rfl hp (transferPart_ldI (dstOf_codeGr j) p amc i k s)
    (dmaAllowed_false s) nofun ha (.inr (by simp [Dst.targets]))).trans (congrArg _ ?_)
  rw [State.deliver, State.writeAll_modeWrite]
  simp [Dst.writes, Dst.jump, Dst.wide, State.readValue_narrow, -BitVec.truncate_eq_setWidth]

/-- ST.I of a general register: the word stored at the mode's address, and the mode's write of AR[i] (R143, R146). -/
theorem exec_stI_gr {p : Bool} {s : State} (hp : PAllowed p s) (amc : AMC) (i j : RegIx) (k : Word)
    (ha : Accessible s (amcAddress amc (s.readAr i) k) false) :
    exec (.stI p amc i (codeGr j) k) s =
      .next (let t := s.setWord (amcAddress amc (s.readAr i) k) (s.readGr j)
        (amcUpdate amc (s.readAr i) k).elim t (t.setAr i)) := by
  refine (exec_store (t := .stI p amc i (codeGr j) k) rfl hp (transferPart_stI (srcOf_codeGr j) p amc i k s)
    (dmaAllowed_false s) ha).trans (congrArg _ ?_)
  have hvalue : s.readSrc (.gr j) = (s.readGr j).zeroExtend 64 := rfl
  have hdraw : s.takesDraw (.gr j) = false := rfl
  rw [hvalue, hdraw, Src.wide, State.writeValue_word, State.writeAll_modeWrite, State.advanceDraws_false]

/-- Settles O16: one mode of Table 5-2 after the other; AMC = 11 is a reserved encoding (R130). -/
theorem constantModesOfLoadsAndStores : Obligations.ConstantModesOfLoadsAndStores := by
  intro p i j k s hp
  refine ⟨fun ha => ⟨?_, ?_, ?_, ?_⟩, fun ha => ⟨?_, ?_⟩, fun store r => ?_⟩
  · exact exec_ldI_gr hp .absolute i j k ha
  · exact exec_ldI_gr hp .loadK i j k ha
  · exact exec_stI_gr hp .absolute i j k ha
  · exact exec_stI_gr hp .loadK i j k ha
  · exact exec_ldI_gr hp .preAddK i j k ha
  · exact exec_stI_gr hp .preAddK i j k ha
  · exact (exec_transfer_eq_illegal_iff (t := .reservedAmc11 p store i r k) rfl hp).2 rfl

end Sys2Proof.Machine
end

section
/-!
A transfer decided while one is pending (R174, R230): whichever row decides it, the word is refused before its memory access.
-/

namespace Sys2Proof.Machine

/-! ### Destinations that hold PC -/

/-- A destination that holds PC holds no address register, so no mode's write meets it. -/
theorem Dst.ar_notMem_targets_of_transfers {d : Dst} (h : d.transfers = true) (i : RegIx) : .ar i ∉ d.targets := by
  cases d with
  | pc | pswrPc | returnPc => simp [Dst.targets]
  | _ => cases h

theorem Dst.touchesDma_of_transfers {d : Dst} (h : d.transfers = true) : d.touchesDma = false := by
  cases d with
  | pc | pswrPc | returnPc => rfl
  | _ => cases h

/-- The registers whose read could start a DMA transfer are pairs (R36). -/
theorem Src.touchesDma_of_narrow {x : Src} (h : x.wide = false) : x.touchesDma = false := by
  cases x with
  | dir c => cases h
  | _ => rfl

/-! ### The refusal, by the kind of plan -/

/-- Whatever its memory access would answer: R230 is decided before it (log 31, 33). -/
theorem exec_of_transfers_pending {t : Instr} {s : State} {touches : Bool} {plan : Plan} (ht : t.isTransfer = true)
    (hp : PAllowed (parallelOf t) s) (hplan : transferPart t s = s.guardDma touches plan) (hdma : DmaAllowed touches s)
    (hnodup : plan.targets.Nodup) (htransfers : plan.transfers = true) (hpend : s.pending ≠ none) :
    exec t s = .refused .transferInDelaySlot := by
  rw [State.guardDma_of_allowed hdma] at hplan
  have hnocollision : ¬ collides plan {} = true := by simp [collides_nullOp.2 hnodup]
  have hinslot : (plan.transfers && s.pending.isSome) = true := by
    simpa [htransfers, Option.isSome_iff_ne_none] using hpend
  rw [exec_of_plan ht hp hplan, commit, if_neg hnocollision, if_pos hinslot]

/-- A row that writes PC without a memory access (R174). -/
theorem exec_planWrite_of_pending {t : Instr} {s : State} {d : Dst} {v : DWord} {dr touches : Bool}
    (ht : t.isTransfer = true) (hp : PAllowed (parallelOf t) s)
    (hplan : transferPart t s = s.guardDma touches (planWrite d v dr s)) (hdma : DmaAllowed touches s)
    (hd : d.transfers = true) (hpend : s.pending ≠ none) : exec t s = .refused .transferInDelaySlot :=
  exec_of_transfers_pending ht hp hplan hdma (by simpa [planWrite, Plan.targets] using d.targets_nodup)
    (by simpa [planWrite, Plan.transfers] using hd) hpend

/-- A row that loads PC (R174), a return's pop included (R225). -/
theorem exec_load_of_pending {t : Instr} {s : State} {d : Dst} {a : Word} {i : RegIx} {newA : Option Word}
    (ht : t.isTransfer = true) (hp : PAllowed (parallelOf t) s)
    (hplan : transferPart t s = s.guardDma d.touchesDma { access := .load a d, writes := modeWrite i newA })
    (hd : d.transfers = true) (hpend : s.pending ≠ none) : exec t s = .refused .transferInDelaySlot :=
  exec_of_transfers_pending ht hp hplan (Dst.touchesDma_of_transfers hd ▸ dmaAllowed_false s)
    (nodup_modeWrite_targets (.inr (Dst.ar_notMem_targets_of_transfers hd i))) (by simpa [Plan.transfers] using hd) hpend

/-! ### Rows -/

/-- MOV to PC or to PSWR,PC from a source of its width (R171, R174). -/
theorem exec_mov_of_pending {p : Bool} {rd rs : RegCode} {d : Dst} {x : Src} {s : State} (hp : PAllowed p s)
    (hd : dstOf rd = some d) (hx : srcOf rs = some x) (hwide : x.wide = d.wide) (hdma : DmaAllowed x.touchesDma s)
    (htransfers : d.transfers = true) (hpend : s.pending ≠ none) :
    exec (.mov p rd rs) s = .refused .transferInDelaySlot := by
  refine exec_planWrite_of_pending rfl hp ((transferPart_mov hd hx p s).trans (if_pos hwide)) ?_ htransfers hpend
  rwa [Dst.touchesDma_of_transfers htransfers, Bool.or_false]

/-- A taken jump (R216, R218). -/
theorem exec_jump_of_pending {t : Instr} {s : State} {cond : Cond} {target : Word} (ht : t.isTransfer = true)
    (hp : PAllowed (parallelOf t) s) (hplan : transferPart t s = planIf cond s { jump := some target })
    (hcond : condHolds cond s.flags = true) (hpend : s.pending ≠ none) : exec t s = .refused .transferInDelaySlot :=
  exec_of_transfers_pending ht hp (hplan.trans (planIf_of_holds hcond _)) (dmaAllowed_false s) List.nodup_nil rfl hpend

/-- A taken call (R217, R219): it pushes nothing. -/
theorem exec_call_of_pending {t : Instr} {s : State} {cond : Cond} {target : Word} (ht : t.isTransfer = true)
    (hp : PAllowed (parallelOf t) s) (hplan : transferPart t s = planIf cond s (s.callPlan target))
    (hcond : condHolds cond s.flags = true) (hpend : s.pending ≠ none) : exec t s = .refused .transferInDelaySlot :=
  exec_of_transfers_pending ht hp (hplan.trans (planIf_of_holds hcond _)) (dmaAllowed_false s)
    (by simp [Plan.targets, State.callPlan]) rfl hpend

/-- A taken return (R223, R224): a load of PC whose mode's register is AR7. -/
theorem exec_return_of_pending {t : Instr} {s : State} {cond : Cond} {d : Dst} (ht : t.isTransfer = true)
    (hp : PAllowed (parallelOf t) s) (hplan : transferPart t s = planIf cond s (s.returnPlan d))
    (hcond : condHolds cond s.flags = true) (hd : d.transfers = true) (hpend : s.pending ≠ none) :
    exec t s = .refused .transferInDelaySlot := by
  have hload := hplan.trans (planIf_of_holds hcond _)
  rw [← Dst.touchesDma_of_transfers hd] at hload
  exact exec_load_of_pending (i := 7) (newA := some s.popSp) ht hp hload hd hpend

/-- Settles O37: moves by the width of their source, the taken control rows, then the constants and loads that write PC. -/
theorem transfersInDelaySlotsAreRefused : Obligations.TransfersInDelaySlotsAreRefused := by
  intro p pm pmc am amc i cond k s hp hpend
  have hpc : dstOf 0b001111#6 = some .pc := rfl
  have hpair : dstOf 0b101111#6 = some .pswrPc := rfl
  refine ⟨fun rs x hx => ⟨fun hnarrow => ?_, fun hwide hdma => ?_⟩, fun hcond => ?_, ?_⟩
  · have hdma : DmaAllowed x.touchesDma s := Src.touchesDma_of_narrow hnarrow ▸ dmaAllowed_false s
    exact exec_mov_of_pending hp hpc hx hnarrow hdma rfl hpend
  · exact exec_mov_of_pending hp hpair hx hwide hdma rfl hpend
  · simp only [List.forall_mem_cons]
    refine ⟨?jmpR, ?callR, ?jmpI, ?callI, ?ret, ?iret, List.forall_mem_nil _⟩
    case jmpR => exact exec_jump_of_pending (target := pmTarget pm i s) rfl hp rfl hcond hpend
    case callR => exact exec_call_of_pending (target := pmTarget pm i s) rfl hp rfl hcond hpend
    case jmpI => exact exec_jump_of_pending (target := pmcTarget pmc i k s) rfl hp rfl hcond hpend
    case callI => exact exec_call_of_pending (target := pmcTarget pmc i k s) rfl hp rfl hcond hpend
    case ret => exact exec_return_of_pending (d := .returnPc) rfl hp rfl hcond rfl hpend
    case iret => exact exec_return_of_pending (d := .pswrPc) rfl hp rfl hcond rfl hpend
  · simp only [List.forall_mem_cons]
    refine ⟨?ldc, ?ldRPc, ?ldRPair, ?ldIPc, ?ldIPair, List.forall_mem_nil _⟩
    case ldc =>
      have hplan := (transferPart_ldc hpc p k s).trans (if_neg Bool.false_ne_true)
      exact exec_planWrite_of_pending rfl hp hplan (dmaAllowed_false s) rfl hpend
    case ldRPc => exact exec_load_of_pending rfl hp (transferPart_ldR hpc p am i s) rfl hpend
    case ldRPair => exact exec_load_of_pending rfl hp (transferPart_ldR hpair p am i s) rfl hpend
    case ldIPc => exact exec_load_of_pending rfl hp (transferPart_ldI hpc p amc i k s) rfl hpend
    case ldIPair => exact exec_load_of_pending rfl hp (transferPart_ldI hpair p amc i k s) rfl hpend

end Sys2Proof.Machine
end

section
/-!
ARM.R and ARM.I (R190 to R194, Tables 5-3 and 5-4): both write one address register of the generator of AR[i].
-/

namespace Sys2Proof.Machine

/-- The register AR[j], j = {bit 24, ARj field}, by its number: the generator of AR[i], then the field (R103). -/
theorem arjIndex_val (i : RegIx) (j : Fin 4) : (arjIndex i j).val = 4 * (i.val / 4) + j.val := by
  unfold arjIndex
  split <;> simp only <;> omega

theorem eq_arjIndex_iff {i dst : RegIx} {j : Fin 4} : dst = arjIndex i j ↔ dst.val = 4 * (i.val / 4) + j.val := by
  rw [← arjIndex_val, Fin.ext_iff]

/-- A row that writes one address register and does nothing else. -/
theorem exec_of_writeAr {t : Instr} {s : State} {r : RegIx} {v : Word} (ht : t.isTransfer = true)
    (hp : PAllowed (parallelOf t) s) (hplan : transferPart t s = .next { writes := [RegWrite.of (.ar r) v] }) :
    exec t s = .next (s.setAr r v) := by
  rw [exec_of_plan ht hp hplan]
  refine commit_eq_next.2 ⟨collides_nullOp.2 (List.nodup_singleton _), nofun, ?_⟩
  rw [State.finish_nullOp, State.decideTransfer_none, State.advanceDraws_false, State.writeAll_cons, State.write_ar,
    State.writeAll_nil]

/-- ARM.R: AR[j] takes what Table 5-3 gives for AR[i] and GR[i] (R193). -/
theorem exec_armR {p : Bool} {s : State} (hp : PAllowed p s) (rm : RM) (i : RegIx) (j : Fin 4) :
    exec (.armR p rm i j) s = .next (s.setAr (arjIndex i j) (rmValue rm (s.readAr i) (s.readGr i))) :=
  exec_of_writeAr rfl hp rfl

/-- ARM.I: AR[j] takes what Table 5-4 gives for AR[i] and the constant (R194). -/
theorem exec_armI {p : Bool} {s : State} (hp : PAllowed p s) (rmc : RMC) (i : RegIx) (j : Fin 4) (k : Word) :
    exec (.armI p rmc i j k) s = .next (s.setAr (arjIndex i j) (rmcValue rmc (s.readAr i) k)) :=
  exec_of_writeAr rfl hp rfl

/-- Settles O28: one mode of Table 5-3 after the other; RM = 11 is a reserved encoding (R130). -/
theorem armRegisterModes : Obligations.ArmRegisterModes := by
  intro p i j dst s hp hdst
  obtain rfl := eq_arjIndex_iff.2 hdst
  refine ⟨exec_armR hp .ar i j, exec_armR hp .arAddGr i j, exec_armR hp .gr i j, ?_⟩
  exact (exec_transfer_eq_illegal_iff (t := .reservedRm11 p i j) rfl hp).2 rfl

/-- Settles O29: one mode of Table 5-4 after the other; RMC = 11 is a reserved encoding (R130). -/
theorem armConstantModes : Obligations.ArmConstantModes := by
  intro p i j k dst s hp hdst
  obtain rfl := eq_arjIndex_iff.2 hdst
  refine ⟨exec_armI hp .ar i j k, exec_armI hp .arAddK i j k, exec_armI hp .k i j k, ?_⟩
  exact (exec_transfer_eq_illegal_iff (t := .reservedRmc11 p i j k) rfl hp).2 rfl

end Sys2Proof.Machine
end

section
/-!
The control rows (R210 to R229): the sixteen conditions, jumps to their targets, and rows whose condition is false.
-/

namespace Sys2Proof.Machine

/-! ### Conditions -/

/-- Settles O33: each code decodes to its own condition; 0000 to 0110 hold where their formula is false, 1000 to 1110 where it is
true. -/
theorem conditionsAreTheTable : Obligations.ConditionsAreTheTable := by
  intro f
  have unset (b : Bool) : (!b) = true ↔ b = false := by simp
  exact ⟨unset _, unset _, unset _, unset _, unset _, unset _, unset _, rfl,
    Iff.rfl, Iff.rfl, Iff.rfl, Iff.rfl, Iff.rfl, Iff.rfl, Iff.rfl, nofun⟩

/-- A control row whose condition is false plans nothing (R229). -/
theorem planIf_of_fails {cond : Cond} {s : State} (h : condHolds cond s.flags = false) (plan : Plan) :
    planIf cond s plan = noTransfer := if_neg (by simp [h])

/-- A word whose transfer part plans nothing does what its OP part does alone (R125, R195). -/
theorem exec_eq_exec_opAlone {row : Instr} {s : State} (h : transferPart row.transferOf s = noTransfer) :
    exec row s = exec row.opAlone s :=
  exec_congr (parallelOf_parts row).2.symm (h.trans (transferPart_opAlone row s).symm) (opPart_opAlone row s).symm

/-- Settles O34: all six rows plan nothing then, and the null OP does nothing either. -/
theorem falseConditionDoesNothing : Obligations.FalseConditionDoesNothing := by
  intro p pm pmc i cond k s hcond
  have nothing {t : Instr} {plan : Plan} (ht : t.isTransfer = true) (hp : parallelOf t = p)
      (hplan : transferPart t s = planIf cond s plan) :
      (PAllowed p s → exec t s = .next s) ∧ ∀ row : Instr, row.transferOf = t → exec row s = exec row.opAlone s := by
    have hnone := hplan.trans (planIf_of_fails hcond plan)
    refine ⟨fun h => exec_of_noTransfer ht (hp ▸ h) hnone, fun row hrow => exec_eq_exec_opAlone ?_⟩
    rwa [hrow]
  simp only [List.forall_mem_cons]
  exact ⟨nothing rfl rfl rfl, nothing rfl rfl rfl, nothing rfl rfl rfl, nothing rfl rfl rfl, nothing rfl rfl rfl,
    nothing rfl rfl rfl, List.forall_mem_nil _⟩

/-! ### Jumps -/

/-- A taken jump leaves its transfer pending (R216, R218). -/
theorem exec_jump {t : Instr} {s : State} {cond : Cond} {target : Word} (ht : t.isTransfer = true)
    (hp : PAllowed (parallelOf t) s) (hplan : transferPart t s = planIf cond s { jump := some target })
    (hcond : condHolds cond s.flags = true) (hpend : s.pending = none) : exec t s = .next (s.jumping target) := by
  rw [exec_of_plan ht hp (hplan.trans (if_pos hcond))]
  exact commit_eq_next.2 ⟨collides_nullOp.2 List.nodup_nil, fun _ => hpend, rfl⟩

/-- Settles O31: each mode's target is that of Table 5-5. -/
theorem jumpRegisterTargets : Obligations.JumpRegisterTargets := by
  intro p i cond s hp hcond hpend
  have jump (pm : PM) : exec (.jmpR p pm i cond) s = .next (s.jumping (pmTarget pm i s)) :=
    exec_jump rfl hp rfl hcond hpend
  exact ⟨jump .ar, jump .arAddGr, jump .gr, jump .pcAddGr⟩

/-- Settles O32: each mode's target is that of Table 5-6. -/
theorem jumpConstantTargets : Obligations.JumpConstantTargets := by
  intro p i cond k s hp hcond hpend
  have jump (pmc : PMC) : exec (.jmpI p pmc i cond k) s = .next (s.jumping (pmcTarget pmc i k s)) :=
    exec_jump rfl hp rfl hcond hpend
  exact ⟨jump .ar, jump .arAddK, jump .k, jump .pcAddK⟩

end Sys2Proof.Machine
end

section
/-!
The stack (R220 to R225, R310, R314): what a push leaves, taken calls and returns, and that a pop takes back what a push left.
-/

namespace Sys2Proof.Machine

/-! ### The push -/

/-- The state with { PSWR, pc } pushed: the stack entry and AR7 (R221). -/
def State.push (s : State) (pc : Word) : State :=
  (s.writeValue s.pushAddr true (s.stackEntry pc)).setAr 7 s.pushSp

theorem State.pushSp_eq (s : State) :
    s.pushSp = if s.par.stackDir = .up then s.readAr 7 + 2#32 else s.readAr 7 - 2#32 := by
  rw [State.pushSp]
  cases s.par.stackDir <;> rfl

theorem State.popSp_eq (s : State) :
    s.popSp = if s.par.stackDir = .up then s.readAr 7 - 2#32 else s.readAr 7 + 2#32 := by
  rw [State.popSp]
  cases s.par.stackDir <;> rfl

/-- The two words of the stack entry, by PAIR_ORDER (R43, R220). -/
theorem State.stackEntry_halves (s : State) (pc : Word) :
    (s.par.pairOrder = .firstHigh →
      (s.stackEntry pc).extractLsb' 0 32 = pc ∧ (s.stackEntry pc).extractLsb' 32 32 = s.pswr) ∧
    (s.par.pairOrder = .firstLow →
      (s.stackEntry pc).extractLsb' 0 32 = s.pswr ∧ (s.stackEntry pc).extractLsb' 32 32 = pc) := by
  have hfirst := pairFirst_pairValue s.par.pairOrder s.pswr pc
  have hsecond := pairSecond_pairValue s.par.pairOrder s.pswr pc
  constructor <;> intro h <;> rw [State.stackEntry] <;> rw [h] at hfirst hsecond ⊢
  · exact ⟨hsecond, hfirst⟩
  · exact ⟨hfirst, hsecond⟩

theorem State.word_push (s : State) (pc b : Word) :
    (s.push pc).word b =
      if b = oddWord s.pushAddr then (s.stackEntry pc).extractLsb' 32 32
      else if b = evenWord s.pushAddr then (s.stackEntry pc).extractLsb' 0 32 else s.word b :=
  State.word_writeValue_wide s s.pushAddr b (s.stackEntry pc)

/-- A push does what R220 and R221 say. -/
theorem pushed_push (s : State) (pc : Word) : Pushed s (s.push pc) pc := by
  have heven : (s.push pc).word (evenWord s.pushAddr) = (s.stackEntry pc).extractLsb' 0 32 := by
    rw [State.word_push, if_neg (evenWord_ne_oddWord _ _), if_pos rfl]
  have hodd : (s.push pc).word (oddWord s.pushAddr) = (s.stackEntry pc).extractLsb' 32 32 := by
    rw [State.word_push, if_pos rfl]
  obtain ⟨hhigh, hlow⟩ := s.stackEntry_halves pc
  unfold Pushed
  rw [← State.pushAddr_eq, ← State.pushSp_eq]
  refine ⟨fun h => ?_, fun h => ?_, fun b hbeven hbodd => ?_, State.readAr_setAr_self _ _ _, fun j hj => ?_⟩
  · exact ⟨heven.trans (hhigh h).1, hodd.trans (hhigh h).2⟩
  · exact ⟨heven.trans (hlow h).1, hodd.trans (hlow h).2⟩
  · exact (State.word_push s pc b).trans ((if_neg hbodd).trans (if_neg hbeven))
  · exact State.readAr_setAr_ne _ _ hj.symm

/-! ### Calls -/

/-- A taken call completes exactly where its stack words are plain memory, and has pushed its return address (R217, R219). -/
theorem exec_call_eq_next {t : Instr} {s u : State} {cond : Cond} {target : Word} (ht : t.isTransfer = true)
    (hp : PAllowed (parallelOf t) s) (hplan : transferPart t s = planIf cond s (s.callPlan target))
    (hcond : condHolds cond s.flags = true) (hpend : s.pending = none) :
    exec t s = .next u ↔ Accessible s s.pushAddr true ∧ u = (s.push s.callReturnPc).jumping target := by
  have hnodup : (s.callPlan target).targets.Nodup := by simp [Plan.targets, State.callPlan]
  have hfinish : (s.writeValue s.pushAddr true (s.stackEntry s.callReturnPc)).finish
      [RegWrite.of (.ar 7) s.pushSp] (some target) false {} = (s.push s.callReturnPc).jumping target := by
    rw [State.finish_nullOp, State.writeAll_cons, State.write_ar, State.writeAll_nil, State.advanceDraws_false]
    rfl
  rw [exec_of_plan ht hp (hplan.trans (if_pos hcond)), commit_eq_next, ← hfinish]
  simp only [collides_nullOp.2 hnodup, hpend, implies_true, true_and]
  rfl

/-- The return address of a call (R222; log 30). -/
theorem State.callReturnPc_eq {s : State} {ret : Word}
    (hdelay : s.par.callReturnPc = .afterDelaySlots → ret = s.pc + 2#32 + 2#32 * BitVec.ofNat 32 s.par.delayWords)
    (hoffset : ∀ k, s.par.callReturnPc = .offset k → ret = s.pc + k) : s.callReturnPc = ret := by
  rw [State.callReturnPc]
  cases h : s.par.callReturnPc with
  | afterDelaySlots => exact (hdelay h).symm
  | offset k => exact (hoffset k h).symm

/-- Settles O35: both rows' calls are one push and one transfer, to the targets of Tables 5-5 and 5-6. -/
theorem callsPushAndTransfer : Obligations.CallsPushAndTransfer := by
  intro p i cond s hp hcond hpend ha ret hdelay hoffset calls
  rw [← State.pushAddr_eq] at ha
  obtain rfl := State.callReturnPc_eq hdelay hoffset
  have call {t : Instr} {target : Word} (ht : t.isTransfer = true) (hpt : PAllowed (parallelOf t) s)
      (hplan : transferPart t s = planIf cond s (s.callPlan target)) : calls t target :=
    ⟨_, (exec_call_eq_next ht hpt hplan hcond hpend).2 ⟨ha, rfl⟩, pushed_push s s.callReturnPc, rfl, rfl⟩
  have callR (pm : PM) : calls (.callR p pm i cond) (pmTarget pm i s) := call rfl hp rfl
  have callI (pmc : PMC) (k : Word) : calls (.callI p pmc i cond k) (pmcTarget pmc i k s) := call rfl hp rfl
  exact ⟨callR .ar, callR .arAddGr, callR .gr, callR .pcAddGr,
    fun k => ⟨callI .ar k, callI .arAddK k, callI .k k, callI .pcAddK k⟩⟩

/-! ### Returns -/

/-- A taken return loads its destination from the top of the stack and moves AR7 (R223, R224, R225). -/
theorem exec_return {t : Instr} {s : State} {cond : Cond} {d : Dst} (ht : t.isTransfer = true)
    (hp : PAllowed (parallelOf t) s) (hplan : transferPart t s = planIf cond s (s.returnPlan d))
    (hcond : condHolds cond s.flags = true) (hpend : s.pending = none) (hd : d.transfers = true)
    (ha : Accessible s s.popAddr d.wide) :
    exec t s = .next (s.deliver (modeWrite 7 (some s.popSp)) d (s.readValue s.popAddr d.wide) false) := by
  have hload := hplan.trans (planIf_of_holds hcond _)
  rw [← Dst.touchesDma_of_transfers hd] at hload
  exact exec_load ht hp hload (Dst.touchesDma_of_transfers hd ▸ dmaAllowed_false s) (fun _ => hpend) ha
    (.inr (Dst.ar_notMem_targets_of_transfers hd 7))

/-- RET takes the PC half of the stack entry (R223). -/
theorem exec_ret {p : Bool} {cond : Cond} {s : State} (hp : PAllowed p s) (hcond : condHolds cond s.flags = true)
    (hpend : s.pending = none) (ha : Accessible s s.popAddr true) :
    exec (.ret p cond) s =
      .next ((s.setAr 7 s.popSp).jumping (pairSecond s.par.pairOrder (s.readValue s.popAddr true))) := by
  rw [exec_return (t := .ret p cond) (d := .returnPc) rfl hp rfl hcond hpend rfl ha, State.deliver, State.writeAll_modeWrite]
  rfl

/-- IRET takes both halves of the stack entry (R224, R314). -/
theorem exec_iret {p : Bool} {cond : Cond} {s : State} (hp : PAllowed p s) (hcond : condHolds cond s.flags = true)
    (hpend : s.pending = none) (ha : Accessible s s.popAddr true) :
    exec (.iret p cond) s =
      .next ({ s.setAr 7 s.popSp with pswr := pairFirst s.par.pairOrder (s.readValue s.popAddr true) }.jumping
        (pairSecond s.par.pairOrder (s.readValue s.popAddr true))) := by
  rw [exec_return (t := .iret p cond) (d := .pswrPc) rfl hp rfl hcond hpend rfl ha, State.deliver, State.writeAll_modeWrite]
  simp only [Dst.writes, State.writeAll_cons, State.write_pswr, State.writeAll_nil, State.advanceDraws_false]
  rfl

/-- The pair at an address: its first half is the odd word under the default PAIR_ORDER, the even one otherwise (R43, R63). -/
theorem pair_of_readValue (s : State) (a : Word) :
    (s.par.pairOrder = .firstHigh → pairFirst s.par.pairOrder (s.readValue a true) = s.word (oddWord a) ∧
      pairSecond s.par.pairOrder (s.readValue a true) = s.word (evenWord a)) ∧
    (s.par.pairOrder = .firstLow → pairFirst s.par.pairOrder (s.readValue a true) = s.word (evenWord a) ∧
      pairSecond s.par.pairOrder (s.readValue a true) = s.word (oddWord a)) := by
  have hhigh : s.readValue a true = pairValue .firstHigh (s.word (oddWord a)) (s.word (evenWord a)) := rfl
  have hlow : s.readValue a true = pairValue .firstLow (s.word (evenWord a)) (s.word (oddWord a)) := rfl
  constructor <;> intro h <;> rw [h]
  · rw [hhigh]
    exact ⟨pairFirst_pairValue _ _ _, pairSecond_pairValue _ _ _⟩
  · rw [hlow]
    exact ⟨pairFirst_pairValue _ _ _, pairSecond_pairValue _ _ _⟩

/-- Settles O36: under each PAIR_ORDER the halves that RET and IRET take are the words named. -/
theorem returnsPopAndTransfer : Obligations.ReturnsPopAndTransfer := by
  intro p cond s hp hcond hpend
  dsimp only
  rw [← State.popAddr_eq, ← State.popSp_eq]
  intro ha
  obtain ⟨hhigh, hlow⟩ := pair_of_readValue s s.popAddr
  rw [exec_ret hp hcond hpend ha, exec_iret hp hcond hpend ha]
  refine ⟨fun h => ?_, fun h => ?_⟩
  · rw [(hhigh h).1, (hhigh h).2]
    exact ⟨rfl, rfl⟩
  · rw [(hlow h).1, (hlow h).2]
    exact ⟨rfl, rfl⟩

/-! ### A return after a push -/

/-- `b` is `s` after a push of `pc`, as far as a return sees it: memory, the address registers and the parameters. -/
structure AfterPush (s b : State) (pc : Word) : Prop where
  mem : b.mem = (s.push pc).mem
  ar : b.ar = (s.push pc).ar
  par : b.par = s.par

section
variable {s b : State} {pc : Word}

theorem AfterPush.readAr_sp (h : AfterPush s b pc) : b.readAr 7 = s.pushSp := by
  rw [State.readAr, h.ar]
  exact State.readAr_setAr_self _ 7 _

/-- The pop looks where the push stored (R221, R225). -/
theorem AfterPush.popAddr (h : AfterPush s b pc) : b.popAddr = s.pushAddr := by
  rw [State.popAddr, h.readAr_sp, h.par, State.pushAddr, State.pushSp]
  cases s.par.stackDir
  · exact BitVec.add_sub_cancel _ _
  · rfl

/-- The pop moves AR7 back to where it was before the push. -/
theorem AfterPush.popSp (h : AfterPush s b pc) : b.popSp = s.readAr 7 := by
  rw [State.popSp, h.readAr_sp, h.par, State.pushSp]
  cases s.par.stackDir
  · exact BitVec.add_sub_cancel _ _
  · exact BitVec.sub_add_cancel _ _

theorem AfterPush.setAr_popSp (h : AfterPush s b pc) : b.setAr 7 b.popSp = { b with ar := s.ar } := by
  have hput : (s.push pc).ar.set 7 (s.readAr 7) = s.ar := by
    simp [State.push, State.setAr, State.readAr]
  rw [h.popSp, State.setAr, h.ar]
  exact congrArg (fun ar => { b with ar := ar }) hput

/-- The pop reads the entry that the push stored. -/
theorem AfterPush.readValue (h : AfterPush s b pc) (ha : Accessible s s.pushAddr true) :
    b.readValue b.popAddr true = s.stackEntry pc := by
  obtain ⟨-, hread⟩ := State.memRead_eq_next.1 (memRead_writeValue_wide (v := s.stackEntry pc) ha)
  rw [h.popAddr, hread, State.readValue, State.word, State.word, h.mem]
  rfl

theorem AfterPush.accessible (h : AfterPush s b pc) (ha : Accessible s s.pushAddr true) :
    Accessible b b.popAddr true := by
  rw [h.popAddr]
  exact (accessible_congr h.par).2 ha

/-- RET after a push goes to the pushed address, with AR7 back (R225). -/
theorem exec_ret_of_afterPush {p : Bool} (h : AfterPush s b pc) (hp : PAllowed p b) (hpend : b.pending = none)
    (ha : Accessible s s.pushAddr true) : exec (.ret p .al) b = .next ({ b with ar := s.ar }.jumping pc) := by
  rw [exec_ret hp rfl hpend (h.accessible ha), h.readValue ha, h.setAr_popSp, h.par, State.stackEntry,
    pairSecond_pairValue]

/-- IRET after a push puts PSWR back as well (R224, R225). -/
theorem exec_iret_of_afterPush {p : Bool} (h : AfterPush s b pc) (hp : PAllowed p b) (hpend : b.pending = none)
    (ha : Accessible s s.pushAddr true) :
    exec (.iret p .al) b = .next ({ b with ar := s.ar, pswr := s.pswr }.jumping pc) := by
  rw [exec_iret hp rfl hpend (h.accessible ha), h.readValue ha, h.setAr_popSp, h.par, State.stackEntry,
    pairFirst_pairValue, pairSecond_pairValue]

end

/-- Settles O39: the call has pushed its return address, and neither PC nor PSWR is where a return looks. -/
theorem callThenReturnRestoresTheStack : Obligations.CallThenReturnRestoresTheStack := by
  intro p i k s t pc pswr hp hpend hcall ret hdelay hoffset back
  obtain rfl := State.callReturnPc_eq hdelay hoffset
  obtain ⟨ha, rfl⟩ :=
    (exec_call_eq_next (t := .callI p .k i .al k) (cond := .al) (target := k) rfl hp rfl rfl hpend).1 hcall
  have hback : AfterPush s back s.callReturnPc := ⟨rfl, rfl, rfl⟩
  exact ⟨_, _, exec_ret_of_afterPush hback hp rfl ha, exec_iret_of_afterPush hback hp rfl ha, rfl, rfl, rfl, rfl, rfl,
    rfl⟩

/-- Settles O58: the entry has pushed the interrupted PC, and IRET takes PC, PSWR and AR7 from the push. -/
theorem interruptThenReturnRestores : Obligations.InterruptThenReturnRestores := by
  intro p n s t pc pswr hp hpend henter
  obtain ⟨ha, rfl⟩ := enterInterrupt_eq_next.1 henter
  refine ⟨_, exec_iret_of_afterPush ⟨rfl, rfl, rfl⟩ hp hpend ha, fun r => ?_, rfl, fun b hb => ?_⟩
  · cases r with
    | timer t => cases t <;> rfl
    | _ => rfl
  · rw [← State.pushAddr_eq] at hb
    exact State.word_writeValue_of_not_mem s _ hb

end Sys2Proof.Machine
end

section
/-!
The adder as arithmetic on numbers (R250 to R253), the flags that an arithmetical row alone stores, and the conditions after
SUB.F as comparisons (R211, R261).
-/

namespace Sys2Proof.Machine

/-! ### The adder -/

/-- The 33-bit sum does not wrap (R253). -/
theorem toNat_adder_sum (x y : Word) (cin : Bool) :
    (x.zeroExtend 33 + y.zeroExtend 33 + (BitVec.ofBool cin).zeroExtend 33).toNat = x.toNat + y.toNat + cin.toNat := by
  have hx := x.isLt
  have hy := y.isLt
  have hc := cin.toNat_le
  simp only [BitVec.toNat_add, BitVec.toNat_setWidth, BitVec.toNat_ofBool]
  omega

theorem toNat_adder_res (x y : Word) (cin : Bool) :
    (adder x y cin).res.toNat = (x.toNat + y.toNat + cin.toNat) % 2 ^ 32 := by
  rw [adder, BitVec.toNat_setWidth, toNat_adder_sum]

/-- Cout is the unsigned overflow of the sum (R252). -/
theorem adder_c_iff (x y : Word) (cin : Bool) :
    (adder x y cin).c = true ↔ 2 ^ 32 ≤ x.toNat + y.toNat + cin.toNat := by
  have hx := x.isLt
  have hy := y.isLt
  have hc := cin.toNat_le
  rw [adder, BitVec.getLsbD, toNat_adder_sum, Nat.testBit_eq_decide_div_mod_eq, decide_eq_true_eq]
  omega

/-- The signed number of a word is its unsigned one, or that less 2^32. -/
theorem toInt_word (x : Word) :
    (x.toInt = x.toNat ∧ x.toNat < 2 ^ 31) ∨ (x.toInt = x.toNat - 2 ^ 32 ∧ 2 ^ 31 ≤ x.toNat) := by
  rw [BitVec.toInt_eq_toNat_cond]
  split <;> omega

theorem msb_iff (x : Word) : x.msb = true ↔ 2 ^ 31 ≤ x.toNat := by
  rw [BitVec.msb_eq_decide, decide_eq_true_eq]

/-- N exclusive-or V is the sign of the exact signed sum (R250, R251): summands of one sign give their sum that sign, and V where
the result has lost it; summands of two signs do not overflow. -/
theorem adder_sign_iff (x y : Word) (cin : Bool) :
    ((adder x y cin).v ^^ (adder x y cin).res.msb) = true ↔ x.toInt + y.toInt + cin.toNat < 0 := by
  have hx := toInt_word x
  have hy := toInt_word y
  have hc := cin.toNat_le
  have hv : (adder x y cin).v = (x.msb == y.msb && (adder x y cin).res.msb != x.msb) := rfl
  by_cases hsign : x.msb = y.msb
  · have hlost : ((adder x y cin).v ^^ (adder x y cin).res.msb) = x.msb := by
      rw [hv, hsign, beq_self_eq_true, Bool.true_and]
      cases y.msb <;> cases (adder x y cin).res.msb <;> rfl
    rw [hlost, msb_iff]
    rw [Bool.eq_iff_iff, msb_iff, msb_iff] at hsign
    omega
  · have hnone : (adder x y cin).v = false := by rw [hv, beq_false_of_ne hsign, Bool.false_and]
    rw [hnone, Bool.false_xor, msb_iff, toNat_adder_res]
    rw [Bool.eq_iff_iff, msb_iff, msb_iff] at hsign
    omega

/-! ### Subtraction -/

section
variable (a b : Word)

theorem adder_sub_res_eq_zero_iff : (adder a (~~~b) true).res = 0#32 ↔ a = b := by
  have hb := b.isLt
  rw [BitVec.toNat_eq, BitVec.toNat_eq, toNat_adder_res, BitVec.toNat_not, Bool.toNat_true, BitVec.toNat_ofNat]
  omega

theorem adder_sub_c_iff : (adder a (~~~b) true).c = true ↔ b.toNat ≤ a.toNat := by
  have hb := b.isLt
  rw [adder_c_iff, BitVec.toNat_not, Bool.toNat_true]
  omega

theorem adder_sub_sign_iff :
    ((adder a (~~~b) true).v ^^ (adder a (~~~b) true).res.msb) = true ↔ a.toInt < b.toInt := by
  have hnot : (~~~b).toInt = -b.toInt - 1 := by
    have hb := toInt_word b
    have hn := toInt_word (~~~b)
    rw [BitVec.toNat_not] at hn
    omega
  rw [adder_sign_iff, hnot, Bool.toNat_true]
  omega

end

/-! ### The flags of an arithmetical row alone -/

/-- An arithmetical row with W = 10 beside a transfer part that plans nothing stores the flags of its result (R274). -/
theorem exists_exec_flags_eq_of_arithF {row : Instr} {s : State} {r : AluResult} (hp : PAllowed (parallelOf row) s)
    (hnone : transferPart row.transferOf s = noTransfer) (hop : opPart row s = arithF r s) :
    ∃ t, exec row s = .next t ∧ t.flags = r.flags := by
  refine ⟨_, (exec_of_parts hp hnone hop).trans (commit_eq_next.2 ⟨rfl, nofun, rfl⟩), ?_⟩
  rw [State.finish_eq]
  exact flagsOfPswr_storeFlags _ _ _

/-- Settles O49: Z, C and N exclusive-or V of SUB.F are the three comparisons of which each condition is made. -/
theorem comparisonConditions : Obligations.ComparisonConditions := by
  intro p s2 s1 d s hp a b
  obtain ⟨t, ht, hflags⟩ := exists_exec_flags_eq_of_arithF (row := .subF s2 s1 d (.nopR p))
    (r := subResult s2 s1 s) hp rfl rfl
  have hz : t.flags.z = true ↔ a = b := by
    rw [hflags]
    exact beq_iff_eq.trans (adder_sub_res_eq_zero_iff a b)
  have hc : t.flags.c = true ↔ b.toNat ≤ a.toNat := by
    rw [hflags]
    exact adder_sub_c_iff a b
  have hlt : (t.flags.v ^^ t.flags.n) = true ↔ a.toInt < b.toInt := by
    rw [hflags]
    exact adder_sub_sign_iff a b
  have hle : ((t.flags.v ^^ t.flags.n) || t.flags.z) = true ↔ a.toInt ≤ b.toInt := by
    rw [Bool.or_eq_true, hlt, hz, le_iff_lt_or_eq, BitVec.toInt_inj]
  have unset {x : Bool} {P : Prop} (h : x = true ↔ P) : (!x) = true ↔ ¬ P := by
    rw [← h, Bool.not_eq_true', Bool.not_eq_true]
  exact ⟨t, ht, hz, unset hz, hc, (unset hc).trans not_le, (unset hlt).trans not_lt, hlt, (unset hle).trans not_le, hle⟩

end Sys2Proof.Machine
end

section
/-!
An OP row beside every transfer part (R125, R243): what its OP part yields is done on top of what the transfer part leaves, or
the two collide. What one OP row does is this applied to the effect of its OP part.
-/

namespace Sys2Proof.Machine

/-! ### The effect of an OP part on top of a transfer part -/

/-- Writes of general registers depend on no other field. -/
theorem State.setGrs_gr_congr (ws : List (RegIx × Word)) {s t : State} (h : s.gr = t.gr) :
    (s.setGrs ws).gr = (t.setGrs ws).gr := by
  induction ws generalizing s t with
  | nil => exact h
  | cons w rest ih => exact ih (by rw [State.setGr_gr, State.setGr_gr, h])

/-- The state that a word leaves is the OP part's effect on what the transfer part leaves; the counter of the free values moves
on once, whichever part took one. -/
theorem State.finish_eq_applyOp (s : State) (ws : List RegWrite) (j : Option Word) (dr : Bool) (o : OpEffect) :
    s.finish ws j dr o =
      { (s.finish ws j dr {}).applyOp o with draws := s.draws + (dr || o.draws).toNat } := by
  obtain ⟨-, -, -, -, -, -, -, -, -, hdraws, -⟩ := State.writeAll_frame ws s
  rw [State.finish_nullOp, State.finish, ← hdraws]
  set w := s.writeAll ws
  have hgr : (((w.decideTransfer j).advanceDraws dr).setGrs o.grs).gr = (w.setGrs o.grs).gr :=
    State.setGrs_gr_congr o.grs (by rw [State.advanceDraws_gr, State.decideTransfer_gr])
  rw [State.applyOp_eq, State.applyOp_eq, hgr]
  cases j <;> cases dr <;> cases o.draws <;> rfl

/-- What an OP row that yields `o` in the state `s` makes of `u`, the state that its transfer part alone leaves (R125 point 7). -/
def State.afterOp (s u : State) (o : OpEffect) : State :=
  { u.applyOp o with draws := if o.draws then s.draws + 1 else u.draws }

theorem State.finish_eq_afterOp {s m : State} (hm : m = s ∨ ∃ a wide v, m = s.writeValue a wide v) (ws : List RegWrite)
    (j : Option Word) (dr : Bool) (o : OpEffect) :
    m.finish ws j dr o = s.afterOp (m.finish ws j dr {}) o := by
  have hdraws : m.draws = s.draws := by
    rcases hm with rfl | ⟨a, wide, v, rfl⟩
    · rfl
    · exact State.writeValue_draws s a wide v
  rw [State.finish_eq_applyOp, State.afterOp, State.finish_draws, hdraws]
  cases o.draws <;> simp

/-! ### When an OP row runs -/

/-- The OP row `row` yields the effect `o` in the state `s`, whatever transfer part it carries. -/
def Yields (row : Instr → Instr) (s : State) (o : OpEffect) : Prop :=
  ∀ t, (row t).transferOf = t ∧ opPart (row t) s = .next o

theorem Yields.parallelOf {row : Instr → Instr} {s : State} {o : OpEffect} (h : Yields row s o) (t : Instr) :
    parallelOf (row t) = parallelOf t := by
  rw [← (parallelOf_parts (row t)).1, (h t).1]

/-- Beside a transfer part that completes with `u`, an OP row runs on top of it, or the two collide (R125). -/
theorem exec_of_yields {row : Instr → Instr} {s u : State} {o : OpEffect} (h : Yields row s o) {t : Instr}
    (ht : t.isTransfer = true) (hu : exec t s = .next u) :
    (¬ PartsCollide t s (o.grs.map Prod.fst) o.flags.isSome → exec (row t) s = .next (s.afterOp u o)) ∧
      (PartsCollide t s (o.grs.map Prod.fst) o.flags.isSome → exec (row t) s = .refused .writeConflict) := by
  obtain ⟨htransfer, hop⟩ := h t
  obtain ⟨hp, plan, o', hplan, hnull, hcommit⟩ := exec_eq_next.1 hu
  rw [transferOf_of_isTransfer ht] at hplan
  rw [opPart_of_isTransfer ht] at hnull
  cases hnull
  obtain ⟨m, ws, j, hm, -, rfl, hbeside⟩ := commit_eq_finish hcommit
  have hnodup : plan.targets.Nodup := collides_nullOp.1 (commit_eq_next.1 hcommit).1
  have hcollide : collides plan o = true ↔ PartsCollide t s (o.grs.map Prod.fst) o.flags.isSome := by
    obtain ⟨hgrs, hflags, -⟩ := opPart_writes hop
    rw [hgrs, hflags, collides_iff_partsCollide (i := row t) (by rwa [htransfer]) hop hnodup, htransfer]
  rw [exec_of_parts (h.parallelOf t ▸ hp) (by rwa [htransfer]) hop, ← hcollide]
  refine ⟨fun hc => ?_, fun hc => by rw [commit, if_pos hc]⟩
  rw [hbeside o (by simpa using hc), State.finish_eq_afterOp hm]

/-- An OP row runs with the effect that its OP part yields, beside every transfer part. -/
theorem opRuns_afterOp {row : Instr → Instr} {s : State} {o : OpEffect} (h : Yields row s o) :
    OpRuns row s (o.grs.map Prod.fst) o.flags.isSome fun u => s.afterOp u o := by
  refine ⟨fun p hp => ?_, fun t u ht hu => exec_of_yields h ht hu⟩
  refine (exec_of_yields h rfl (exec_of_noTransfer (t := .nopR p) rfl hp rfl)).1 ?_
  rintro (⟨i, -, plan, hplan, hi⟩ | ⟨-, plan, hplan, hi⟩) <;> cases hplan <;> cases hi

/-- The effect of a row that runs is determined by what it makes of states with the parameters of `s`: no instruction changes
those (R8). -/
theorem OpRuns.congr {row : Instr → Instr} {s : State} {ds : List RegIx} {flags : Bool} {f g : State → State}
    (h : OpRuns row s ds flags f) (hfg : ∀ u, u.par = s.par → f u = g u) : OpRuns row s ds flags g := by
  refine ⟨fun p hp => hfg s rfl ▸ h.1 p hp, fun t u ht hu => ?_⟩
  have hpar : u.par = s.par := by
    obtain ⟨-, -, -, -, -, hpar, -⟩ := exec_frame hu
    exact hpar
  exact hfg u hpar ▸ h.2 t u ht hu

/-! ### The three kinds of effect -/

theorem State.setGrs_draws (s : State) (ws : List (RegIx × Word)) : (s.setGrs ws).draws = s.draws := by
  obtain ⟨g, h⟩ := State.setGrs_frame ws s
  rw [h]

theorem State.setGrs_pswr (s : State) (ws : List (RegIx × Word)) : (s.setGrs ws).pswr = s.pswr := by
  obtain ⟨g, h⟩ := State.setGrs_frame ws s
  rw [h]

theorem State.setGrs_par (s : State) (ws : List (RegIx × Word)) : (s.setGrs ws).par = s.par := by
  obtain ⟨g, h⟩ := State.setGrs_frame ws s
  rw [h]

/-- W = 01: the general registers are written, and interrupt 2 is requested if the row asks for it (R243, R273). -/
theorem opRuns_of_writes {row : Instr → Instr} {s : State} {gs : List (RegIx × Word)} {ov : Bool} {P : Prop} [Decidable P]
    (h : Yields row s { grs := gs, overflow := ov }) (hP : ov = true ↔ P) :
    OpRuns row s (gs.map Prod.fst) false fun u => if P then (u.setGrs gs).raise .overflow else u.setGrs gs := by
  refine (opRuns_afterOp h).congr fun u _ => ?_
  simp only [State.afterOp, State.applyOp, hP]
  split <;> simp [← State.setGrs_draws u gs, State.raise]

/-- W = 01 of a row that requests nothing. -/
theorem opRuns_of_grs {row : Instr → Instr} {s : State} {gs : List (RegIx × Word)} (h : Yields row s { grs := gs }) :
    OpRuns row s (gs.map Prod.fst) false fun u => u.setGrs gs := by
  simpa using opRuns_of_writes (P := False) h (by simp)

/-- The flags are stored, and the general registers are written that the row names (W = 10: none; W = 11: GRdst). -/
theorem opRuns_of_stores {row : Instr → Instr} {s : State} {gs : List (RegIx × Word)} {f : Flags} {ov : Bool} {P : Prop}
    [Decidable P] (h : Yields row s { grs := gs, flags := some f, overflow := ov }) (hP : ov = true ↔ P) :
    OpRuns row s (gs.map Prod.fst) true fun u =>
      let stored : State := { u.setGrs gs with pswr := storeFlags s.par.pswrLayout u.pswr f }
      if P then stored.raise .overflow else stored := by
  refine (opRuns_afterOp h).congr fun u hpar => ?_
  simp only [State.afterOp, State.applyOp, hP, State.setGrs_par, State.setGrs_pswr, hpar]
  split <;> simp [← State.setGrs_draws u gs, State.raise]

/-- The flags are stored with free values for C and V, so that the counter moves on (R13). -/
theorem opRuns_of_storesFree {row : Instr → Instr} {s : State} {gs : List (RegIx × Word)} {f : Flags}
    (h : Yields row s { grs := gs, flags := some f, draws := true }) :
    OpRuns row s (gs.map Prod.fst) true fun u =>
      { u.setGrs gs with pswr := storeFlags s.par.pswrLayout u.pswr f, draws := s.draws + 1 } := by
  refine (opRuns_afterOp h).congr fun u hpar => ?_
  simp [State.afterOp, State.applyOp, State.setGrs_par, State.setGrs_pswr, hpar]

theorem AluResult.flags_eq (r : AluResult) :
    r.flags = { n := r.res.getLsbD 31, z := decide (r.res = 0), v := r.v, c := r.c } := rfl

/-! ### Refusals of the OP part -/

/-- A P bit that is allowed changes nothing (R122). -/
theorem runWord_of_allowed {p : Bool} {s : State} (hp : PAllowed p s) (t : Result Plan) (o : Result OpEffect) :
    runWord p t o s = runWord false t o s := by
  cases p with
  | false => rfl
  | true =>
    unfold runWord
    rw [hp rfl]
    rfl

/-- Beside NOP.R an OP part that is refused refuses the word. -/
theorem exec_of_opPart_refused {i : Instr} {s : State} {r : Refusal} (hp : PAllowed (parallelOf i) s)
    (hnone : transferPart i.transferOf s = noTransfer) (hr : opPart i s = .refused r) : exec i s = .refused r := by
  rw [exec_eq_runWord, runWord_of_allowed hp, hnone, hr]
  rfl

end Sys2Proof.Machine
end

section
/-!
The arithmetical and logical operations beside every transfer part (R243, R244, R258 to R274): what each row of the two tables
yields, its result bit by bit or by the adder, and the flags it stores.
-/

namespace Sys2Proof.Machine

/-! ### Reserved AOP codes -/

/-- A row of the OP part with a reserved AOP code raises IllegalInstruction, whatever W is (R272). -/
theorem opPart_aluRow_of_reserved {code : BitVec 4} (h : isReservedAop code = true) (f : BitVec 2) (s2 s1 d : RegIx)
    (t : Instr) (s : State) : opPart (aluRow f true code s2 s1 d t) s = .fault .illegalInstruction := by
  simp only [isReservedAop_eq, Bool.or_eq_true] at h
  simp only [aluRow, Bool.true_and]
  split
  · rfl
  · next h101x =>
    split
    · rfl
    · next h11x1 =>
      rw [if_pos (h.resolve_left (not_or.2 ⟨h101x, h11x1⟩))]
      rfl

/-- Settles O5: the word is a row with a reserved AOP code over its transfer part, and that row raises. -/
theorem reservedAopCodesRaise : Obligations.ReservedAopCodesRaise := by
  intro w k s hp hform harith hcode
  obtain ⟨-, -, hparallel⟩ := everyWordIsAWellFormedInstruction w k
  have hnull : isNullOp w = false := by
    rw [← Bool.not_eq_true, isNullOp_iff]
    exact fun h => hform h.1
  have hreserved : isReservedAop (w.extractLsb' 9 4) = true := by
    simpa only [isReservedAop, Bool.or_eq_true, beq_iff_eq, or_assoc] using hcode
  refine (exec_eq_illegal_iff (hparallel ▸ hp)).2 (.inr ?_)
  rw [decode, hnull, if_neg Bool.false_ne_true, decodeOp_eq, if_neg hform, harith]
  exact opPart_aluRow_of_reserved hreserved ..

/-! ### The adder on signed numbers -/

/-- Settles O45: the sign of the exact sum is N exclusive-or V, so V tells that it is not the sign of the result. -/
theorem adderIsExact : Obligations.AdderIsExact := by
  intro x y cin
  refine ⟨toNat_adder_res x y cin, adder_c_iff x y cin, ?_⟩
  have hsign := adder_sign_iff x y cin
  have hres := toNat_adder_res x y cin
  have hn := msb_iff (adder x y cin).res
  have hx := toInt_word x
  have hy := toInt_word y
  have hc := cin.toNat_le
  cases hv : (adder x y cin).v <;> rw [hv] at hsign
  · rw [Bool.false_xor, hn] at hsign
    simp only [Bool.false_eq_true, false_iff, not_not]
    omega
  · rw [Bool.true_xor, Bool.not_eq_true', ← Bool.not_eq_true, hn] at hsign
    simp only [true_iff]
    omega

/-! ### Rows that pass through the adder -/

theorem overflowRequested_iff_of_keeps (mode : OverflowIrq) (v : Bool) :
    overflowRequested mode false v = true ↔ v = true ∧ mode = .onAnyV := by
  cases mode <;> simp [overflowRequested]

theorem overflowRequested_iff_of_stores (mode : OverflowIrq) (v : Bool) :
    overflowRequested mode true v = true ↔ v = true ∧ mode ≠ .never := by
  cases mode <;> simp [overflowRequested]

/-- Table R260, row by row: the adder call, with the result written (W = 01) or its flags stored (W = 10) (R274). -/
theorem yields_of_mem_adderRows {row : AluRow × AluRow × (Word → Word → Bool → Word × Word × Bool)}
    (h : row ∈ adderRows) (s2 s1 d : RegIx) (s : State) :
    let x := row.2.2 (s.readGr s2) (s.readGr s1) s.flags.c
    let r := adder x.1 x.2.1 x.2.2
    Yields (row.1 s2 s1 d) s { grs := [(d, r.res)], overflow := overflowRequested s.par.overflowIrq false r.v } ∧
      Yields (row.2.1 s2 s1 d) s
        { flags := some r.flags, overflow := overflowRequested s.par.overflowIrq true r.v } := by
  fin_cases h <;> exact ⟨fun _ => ⟨rfl, rfl⟩, fun _ => ⟨rfl, rfl⟩⟩

/-- Settles O46: the row writes the adder's result, and asks for interrupt 2 by OVERFLOW_IRQ. -/
theorem arithmeticWritesTheResult : Obligations.ArithmeticWritesTheResult := by
  intro s2 s1 d s row hrow
  obtain ⟨hw, -⟩ := yields_of_mem_adderRows hrow s2 s1 d s
  exact opRuns_of_writes hw (overflowRequested_iff_of_keeps _ _)

/-- Settles O47: the row stores the flags of the adder call, and asks for interrupt 2 by OVERFLOW_IRQ. -/
theorem arithmeticStoresTheFlags : Obligations.ArithmeticStoresTheFlags := by
  intro s2 s1 d s row hrow
  obtain ⟨-, hf⟩ := yields_of_mem_adderRows hrow s2 s1 d s
  exact opRuns_of_stores hf (overflowRequested_iff_of_stores _ _)

/-! ### Flags as numbers -/

/-- An adder row with W = 10 beside NOP.R leaves the flags of its adder call, and the general registers as they were. -/
theorem exists_exec_of_mem_adderRows {row : AluRow × AluRow × (Word → Word → Bool → Word × Word × Bool)}
    (h : row ∈ adderRows) {p : Bool} {s : State} (hp : PAllowed p s) (s2 s1 d : RegIx) :
    let x := row.2.2 (s.readGr s2) (s.readGr s1) s.flags.c
    ∃ t, exec (row.2.1 s2 s1 d (.nopR p)) s = .next t ∧ t.gr = s.gr ∧ t.flags = (adder x.1 x.2.1 x.2.2).flags := by
  refine ⟨_, (arithmeticStoresTheFlags s2 s1 d s row h).1 p hp, ?_, ?_⟩
  · dsimp only
    split <;> rfl
  · dsimp only
    split <;> exact flagsOfPswr_storeFlags _ _ _

/-- The adder call on `x`, `y` and `cin` has the result `r`, carries when `carry` says so and overflows when `overflow` does. -/
def AdderGives (x y : Word) (cin : Bool) (r : Word) (carry overflow : Prop) : Prop :=
  (adder x y cin).res = r ∧ ((adder x y cin).c = true ↔ carry) ∧ ((adder x y cin).v = true ↔ overflow)

/-- An adder call told by numbers: the sum of the unsigned ones, and that of the signed ones (R251 to R253). -/
theorem adderGives_of_numbers {x y r : Word} {cin : Bool} {carry overflow : Prop}
    (hr : (x.toNat + y.toNat + cin.toNat) % 2 ^ 32 = r.toNat) (hc : 2 ^ 32 ≤ x.toNat + y.toNat + cin.toNat ↔ carry)
    (hv : ¬ (-2 ^ 31 ≤ x.toInt + y.toInt + cin.toNat ∧ x.toInt + y.toInt + cin.toNat ≤ 2 ^ 31 - 1) ↔ overflow) :
    AdderGives x y cin r carry overflow := by
  obtain ⟨hres, hcarry, hoverflow⟩ := adderIsExact x y cin
  exact ⟨BitVec.eq_of_toNat_eq (hres.trans hr), hcarry.trans hc, hoverflow.trans hv⟩

/-- An adder row with W = 10 beside NOP.R, its flags told one by one. -/
theorem exists_flags_of_mem_adderRows {row : AluRow × AluRow × (Word → Word → Bool → Word × Word × Bool)}
    (h : row ∈ adderRows) {p : Bool} {s : State} (hp : PAllowed p s) (s2 s1 d : RegIx) {x y r : Word} {cin : Bool}
    {carry overflow : Prop} (hx : row.2.2 (s.readGr s2) (s.readGr s1) s.flags.c = (x, y, cin))
    (hadder : AdderGives x y cin r carry overflow) :
    ∃ t, exec (row.2.1 s2 s1 d (.nopR p)) s = .next t ∧ t.gr = s.gr ∧ t.flags.n = r.getLsbD 31 ∧
      (t.flags.z = true ↔ r = 0) ∧ (t.flags.c = true ↔ carry) ∧ (t.flags.v = true ↔ overflow) := by
  obtain ⟨t, ht, hgr, hflags⟩ := exists_exec_of_mem_adderRows h hp s2 s1 d
  obtain ⟨rfl, hc, hv⟩ := hadder
  rw [hx, AluResult.flags_eq] at hflags
  refine ⟨t, ht, hgr, ?_⟩
  rw [hflags]
  exact ⟨rfl, decide_eq_true_iff, hc, hv⟩

section
variable (a b : Word)

/-- The signed number of the complement (R261). -/
theorem toInt_not_word : (~~~b).toInt = -b.toInt - 1 := by
  have hb := toInt_word b
  have hn := toInt_word (~~~b)
  rw [BitVec.toNat_not] at hn
  omega

theorem adderGives_sub :
    AdderGives a (~~~b) true (a - b) (b.toNat ≤ a.toNat)
      (¬ (-2 ^ 31 ≤ a.toInt - b.toInt ∧ a.toInt - b.toInt ≤ 2 ^ 31 - 1)) := by
  have hb := b.isLt
  refine adderGives_of_numbers ?_ ?_ ?_
  · rw [BitVec.toNat_not, BitVec.toNat_sub, Bool.toNat_true]
    omega
  · rw [BitVec.toNat_not, Bool.toNat_true]
    omega
  · rw [toInt_not_word, Bool.toNat_true]
    omega

theorem adderGives_add :
    AdderGives a b false (a + b) (2 ^ 32 ≤ a.toNat + b.toNat)
      (¬ (-2 ^ 31 ≤ a.toInt + b.toInt ∧ a.toInt + b.toInt ≤ 2 ^ 31 - 1)) := by
  refine adderGives_of_numbers ?_ ?_ ?_
  · rw [BitVec.toNat_add, Bool.toNat_false, Nat.add_zero]
  · rw [Bool.toNat_false, Nat.add_zero]
  · rw [Bool.toNat_false, Int.natCast_zero, Int.add_zero]

/-- A sum with the constant 1 overflows at one word only. -/
theorem adderGives_inc : AdderGives a 0#32 true (a + 1#32) (a = 0xFFFFFFFF#32) (a = 0x7FFFFFFF#32) := by
  have ha := toInt_word a
  have hlt := a.isLt
  rw [BitVec.toNat_eq, BitVec.toNat_eq]
  refine adderGives_of_numbers ?_ ?_ ?_
  · rw [BitVec.toNat_add]
    rfl
  · rw [BitVec.toNat_ofNat, BitVec.toNat_ofNat, Bool.toNat_true]
    omega
  · rw [BitVec.toInt_zero, BitVec.toNat_ofNat, Bool.toNat_true]
    omega

/-- Beside the constant -1 only the word 0 has no carry. -/
theorem adderGives_dec : AdderGives a 0xFFFFFFFF#32 false (a - 1#32) (a ≠ 0#32) (a = 0x80000000#32) := by
  have ha := toInt_word a
  have hlt := a.isLt
  have hones : (0xFFFFFFFF#32).toInt = -1 := rfl
  rw [Ne, BitVec.toNat_eq, BitVec.toNat_eq]
  refine adderGives_of_numbers ?_ ?_ ?_
  · rw [BitVec.toNat_sub, BitVec.toNat_ofNat, BitVec.toNat_ofNat, Bool.toNat_false]
    omega
  · rw [BitVec.toNat_ofNat, BitVec.toNat_ofNat, Bool.toNat_false]
    omega
  · rw [hones, BitVec.toNat_ofNat, Bool.toNat_false]
    omega

theorem adderGives_neg : AdderGives 0#32 (~~~a) true (-a) (a = 0#32) (a = 0x80000000#32) := by
  have ha := toInt_word a
  have hlt := a.isLt
  rw [BitVec.toNat_eq, BitVec.toNat_eq]
  refine adderGives_of_numbers ?_ ?_ ?_
  · rw [BitVec.toNat_neg, BitVec.toNat_not, BitVec.toNat_ofNat, Bool.toNat_true]
    omega
  · rw [BitVec.toNat_not, BitVec.toNat_ofNat, Bool.toNat_true]
    omega
  · rw [BitVec.toInt_zero, toInt_not_word, BitVec.toNat_ofNat, Bool.toNat_true]
    omega

end

/-- Settles O48: the adder calls of the rows SUB, ADD, INC, DEC and NEG, as numbers. -/
theorem flagsOfPlainArithmetic : Obligations.FlagsOfPlainArithmetic := by
  intro p s2 s1 d s hp a b fits flagged
  have mem (n : Nat) (hn : n < adderRows.length) : adderRows[n] ∈ adderRows := List.getElem_mem hn
  exact ⟨exists_flags_of_mem_adderRows (mem 0 (by decide)) hp s2 s1 d rfl (adderGives_sub a b),
    exists_flags_of_mem_adderRows (mem 6 (by decide)) hp s2 s1 d rfl (adderGives_add a b),
    exists_flags_of_mem_adderRows (mem 2 (by decide)) hp s2 s1 d rfl (adderGives_inc a),
    exists_flags_of_mem_adderRows (mem 4 (by decide)) hp s2 s1 d rfl (adderGives_dec a),
    exists_flags_of_mem_adderRows (mem 8 (by decide)) hp s2 s1 d rfl (adderGives_neg a)⟩

/-! ### Logical operations -/

/-- A Boolean function of two bits at each bit position (R259). -/
theorem getLsbD_bitwise (f : Bool → Bool → Bool) (x y : Word) {b : Nat} (hb : b < 32) :
    (bitwise f x y).getLsbD b = f (x.getLsbD b) (y.getLsbD b) := by
  have term (c : Bool) (z : Word) : (if c then z else 0#32).getLsbD b = (c && z.getLsbD b) := by
    cases c <;> simp
  simp only [bitwise, BitVec.getLsbD_or, term, BitVec.getLsbD_and, BitVec.getLsbD_not, hb, decide_true, Bool.true_and]
  cases x.getLsbD b <;> cases y.getLsbD b <;> simp

/-- Each bit of the result of LOG.k is LOP_MAP's function of the two bits (R258, R259; log 13). -/
theorem getLsbD_logicalResult (par : Params) (code : BitVec 4) (s2 s1 : Word) (draw : Nat) {b : Nat} (hb : b < 32) :
    (logicalResult par code s2 s1 draw).res.getLsbD b =
      (par.lopTable[code.toNat]).getLsbD (2 * (s2.getLsbD b).toNat + (s1.getLsbD b).toNat) :=
  getLsbD_bitwise _ _ _ hb

/-- The rows of LOG.k, with the result written (W = 01) or its flags stored (W = 10) (R258). -/
theorem yields_of_mem_logicalRows {row : BitVec 4 × AluRow × AluRow} (h : row ∈ logicalRows) (s2 s1 d : RegIx) (s : State) :
    let r := logicalResult s.par row.1 (s.readGr s2) (s.readGr s1) s.draws
    Yields (row.2.1 s2 s1 d) s { grs := [(d, r.res)] } ∧
      Yields (row.2.2 s2 s1 d) s { flags := some r.flags, draws := true } := by
  fin_cases h <;> exact ⟨fun _ => ⟨rfl, rfl⟩, fun _ => ⟨rfl, rfl⟩⟩

/-- Settles O43: the row writes the word that LOP_MAP makes bit by bit. -/
theorem logicalWritesBitByBit : Obligations.LogicalWritesBitByBit := by
  intro s2 s1 d s row hrow
  obtain ⟨hw, -⟩ := yields_of_mem_logicalRows hrow s2 s1 d s
  exact ⟨_, opRuns_of_grs hw, fun _ => getLsbD_logicalResult s.par row.1 _ _ s.draws⟩

/-- Settles O44: the row stores N and Z of that word, and the free values for C and V. -/
theorem logicalFlags : Obligations.LogicalFlags := by
  intro s2 s1 d s row hrow
  obtain ⟨-, hf⟩ := yields_of_mem_logicalRows hrow s2 s1 d s
  exact ⟨_, _, _, opRuns_of_storesFree hf, fun _ => getLsbD_logicalResult s.par row.1 _ _ s.draws⟩

/-! ### Multiplication steps -/

/-- The other registers of a multiplication step are other than GRdst (R269; log 14). -/
theorem ne_of_mem_otherWrites {m : MulStep} {d : RegIx} {w : RegIx × Word} (h : w ∈ otherWrites m d) : w.1 ≠ d := by
  obtain ⟨i, -, hi⟩ := List.mem_filterMap.1 h
  split at hi
  · cases hi
  · next hne =>
    obtain ⟨v, -, rfl⟩ := Option.map_eq_some_iff.1 hi
    exact hne

/-- MULF and MULS by the unknown MUL_STEP (R269, R270; log 14). -/
theorem yields_of_mem_multiplyRows {row : Bool × AluRow × AluRow} (h : row ∈ multiplyRows) (s2 s1 d : RegIx) (s : State) :
    let m := multiplyStep row.1 0b01#2 s2 s1 d s
    let f := (multiplyStep row.1 0b10#2 s2 s1 d s).flags
    Yields (row.2.1 s2 s1 d) s
        { grs := (d, m.res) :: otherWrites m d, overflow := overflowRequested s.par.overflowIrq false m.flags.v } ∧
      Yields (row.2.2 s2 s1 d) s { flags := some f, overflow := overflowRequested s.par.overflowIrq true f.v } := by
  fin_cases h <;> exact ⟨fun _ => ⟨rfl, rfl⟩, fun _ => ⟨rfl, rfl⟩⟩

/-- Settles O50: the functions are MUL_STEP with W = 01 and with W = 10. -/
theorem multiplySteps : Obligations.MultiplySteps := by
  intro row hrow d
  refine ⟨fun x y z c =>
      ((Config.mulStep row.1 0b01#2 x y z c).res, otherWrites (Config.mulStep row.1 0b01#2 x y z c) d,
        (Config.mulStep row.1 0b01#2 x y z c).flags.v),
    fun x y z c => (Config.mulStep row.1 0b10#2 x y z c).flags, fun x y z c m hm => ne_of_mem_otherWrites hm,
    fun s2 s1 s => ?_⟩
  obtain ⟨hw, hf⟩ := yields_of_mem_multiplyRows hrow s2 s1 d s
  exact ⟨opRuns_of_writes hw (overflowRequested_iff_of_keeps _ _),
    opRuns_of_stores hf (overflowRequested_iff_of_stores _ _)⟩

/-! ### W = 11 -/

/-- The AOP codes of Table R260 are those that are not reserved (R272). -/
theorem mem_of_not_isReservedAop {code : BitVec 4} (h : isReservedAop code = false) :
    code ∈ [0#4, 1#4, 2#4, 3#4, 4#4, 5#4, 6#4, 7#4, 8#4, 9#4, 12#4] := by
  revert code
  decide

/-- W = 11 has an effect for every code that is not a reserved AOP (R244, R272). -/
theorem exists_w11Effect {arith : Bool} {code : BitVec 4} (h : arith = true → isReservedAop code = false)
    (s2 s1 d : RegIx) (s : State) : ∃ o, w11Effect arith code s2 s1 d s = some o := by
  cases arith with
  | false => exact ⟨_, rfl⟩
  | true =>
    have hmem := mem_of_not_isReservedAop (h rfl)
    fin_cases hmem <;> exact ⟨_, rfl⟩

/-- Under W11_MODE = both the row yields that effect (R244; log 11). -/
theorem yields_w11 {arith : Bool} {code : BitVec 4} {s2 s1 d : RegIx} {s : State} {o : OpEffect}
    (hboth : s.par.w11Mode = .both) (h : w11Effect arith code s2 s1 d s = some o) :
    Yields (.w11 arith code s2 s1 d) s o := by
  refine fun t => ⟨rfl, ?_⟩
  simp only [opPart, opW11, h, hboth]

/-- Under W11_MODE = both a multiplication step writes what MUL_STEP gives and stores its flags (R244, R269; log 14). -/
theorem opRuns_w11_of_mulBoth {first : Bool} {aop : BitVec 4} {s2 s1 d : RegIx} {s : State}
    (hboth : s.par.w11Mode = .both) (h : w11Effect true aop s2 s1 d s = some (mulBoth first s2 s1 d s)) :
    ∃ (r : Word) (more : List (RegIx × Word)) (f : Flags), (∀ m ∈ more, m.1 ≠ d) ∧
      OpRuns (.w11 true aop s2 s1 d) s (d :: more.map Prod.fst) true fun u =>
        let stored : State := { (u.setGr d r).setGrs more with pswr := storeFlags s.par.pswrLayout u.pswr f }
        if f.v = true ∧ s.par.overflowIrq ≠ .never then stored.raise .overflow else stored :=
  ⟨_, _, _, fun _ => ne_of_mem_otherWrites, opRuns_of_stores (yields_w11 hboth h) (overflowRequested_iff_of_stores _ _)⟩

/-- Settles O51: under both W = 11 does what W = 01 and W = 10 do together; under refuse it is refused, where the code has a
meaning. -/
theorem writeAndStoreTogether : Obligations.WriteAndStoreTogether := by
  intro s2 s1 d s
  refine ⟨fun hboth => ⟨fun aop f hmem => ?_, fun aop haop => ?_, fun lop => ?_⟩, fun hrefuse p arith code hp hcode => ?_⟩
  · intro x r
    have hw : w11Effect true aop s2 s1 d s = some (bothEffect r true d s) := by
      fin_cases hmem <;> rfl
    exact opRuns_of_stores (yields_w11 hboth hw) (overflowRequested_iff_of_stores _ _)
  · rcases haop with rfl | rfl
    · exact opRuns_w11_of_mulBoth (first := true) hboth rfl
    · exact opRuns_w11_of_mulBoth (first := false) hboth rfl
  · have hw : w11Effect false lop s2 s1 d s = some (bothEffect
        (logicalResult s.par lop (s.readGr s2) (s.readGr s1) s.draws) false d s) := rfl
    exact ⟨_, _, _, opRuns_of_storesFree (yields_w11 hboth hw), fun _ => getLsbD_logicalResult s.par lop _ _ s.draws⟩
  · refine exec_of_opPart_refused hp rfl ?_
    obtain ⟨o, ho⟩ := exists_w11Effect hcode s2 s1 d s
    simp only [opPart, opW11, ho, hrefuse]

end Sys2Proof.Machine
end

section
/-!
The shifts (R245 to R257): the words that rotating and shifting make, bit by bit, and what each shift row yields under either
value of SHIFT_FLAGS.
-/

namespace Sys2Proof.Machine

/-! ### Words shifted, bit by bit -/

theorem getLsbD_rotateLeft_word (x : Word) (n : Nat) {b : Nat} (hb : b < 32) :
    (x.rotateLeft n).getLsbD b = x.getLsbD ((b + (32 - n % 32)) % 32) := by
  rw [BitVec.getLsbD_rotateLeft]
  by_cases hwrap : b < n % 32
  · rw [decide_eq_true hwrap, cond_true]
    congr 1
    omega
  · rw [decide_eq_false hwrap, decide_eq_true hb, cond_false, Bool.true_and]
    congr 1
    omega

/-- A rotation to the left brings bit `b` to `b + n`, around the end of the word (R247). -/
theorem getLsbD_rotate_left (x : Word) (n : Nat) {b : Nat} (hb : b < 32) :
    (rotate x .left n).getLsbD ((b + n) % 32) = x.getLsbD b := by
  rw [rotate, getLsbD_rotateLeft_word _ _ (Nat.mod_lt _ (by decide))]
  congr 1
  omega

/-- A rotation to the right brings bit `b + n` to `b`, around the end of the word (R247). -/
theorem getLsbD_rotate_right (x : Word) (n : Nat) {b : Nat} (hb : b < 32) :
    (rotate x .right n).getLsbD b = x.getLsbD ((b + n) % 32) := by
  rw [rotate, getLsbD_rotateLeft_word _ _ hb]
  congr 1
  omega

theorem getLsbD_shiftLogical_left (x : Word) (n : Nat) {b : Nat} (hb : b < 32) :
    (shiftLogical x .left n).getLsbD b = (decide (n ≤ b) && x.getLsbD (b - n)) := by
  rw [shiftLogical, BitVec.getLsbD_shiftLeft, decide_eq_true hb, Bool.true_and, ← decide_not]
  simp only [Nat.not_lt]

theorem getLsbD_shiftLogical_right (x : Word) (n b : Nat) :
    (shiftLogical x .right n).getLsbD b = x.getLsbD (b + n) := by
  rw [shiftLogical, BitVec.getLsbD_ushiftRight, Nat.add_comm]

/-- The sign comes in from the left (R247). -/
theorem getLsbD_shiftArithmetical_right (x : Word) (n : Nat) {b : Nat} (hb : b < 32) :
    (shiftArithmetical x .right n).getLsbD b = if b + n < 32 then x.getLsbD (b + n) else x.getLsbD 31 := by
  rw [shiftArithmetical, BitVec.getLsbD_sshiftRight, decide_eq_false (Nat.not_le.2 hb), Bool.not_false, Bool.true_and,
    Nat.add_comm n b, BitVec.msb_eq_getLsbD_last]

/-- A zero distance copies, whatever the direction (R246). -/
theorem rotate_zero (x : Word) (dir : Dir) : rotate x dir 0 = x := by
  refine BitVec.eq_of_getLsbD_eq fun b hb => ?_
  cases dir with
  | left => simpa [Nat.mod_eq_of_lt hb] using getLsbD_rotate_left x 0 hb
  | right => simpa [Nat.mod_eq_of_lt hb] using getLsbD_rotate_right x 0 hb

theorem shiftLogical_zero (x : Word) (dir : Dir) : shiftLogical x dir 0 = x := by
  cases dir
  · exact BitVec.shiftLeft_zero x
  · exact BitVec.ushiftRight_zero x

theorem shiftArithmetical_zero (x : Word) (dir : Dir) : shiftArithmetical x dir 0 = x := by
  cases dir
  · exact BitVec.shiftLeft_zero x
  · exact BitVec.sshiftRight_zero

/-! ### What the shift rows yield -/

section
variable {count : BitVec 6} {src dst : RegIx} {s : State}

theorem yields_rot (h : ¬ (count = 0#6 ∧ src = dst)) :
    Yields (.rot count src dst) s (shiftBy rotate count src dst s) := by
  have hnull : isNullRot count src dst = false := by
    rw [← Bool.not_eq_true, isNullRot, Bool.and_eq_true, beq_iff_eq, beq_iff_eq]
    exact h
  refine fun t => ⟨rfl, ?_⟩
  simp only [opPart, opRot, hnull, Bool.false_eq_true, if_false]

theorem yields_lsh : Yields (.lsh count src dst) s (shiftBy shiftLogical count src dst s) := fun _ => ⟨rfl, rfl⟩

theorem yields_ash : Yields (.ash count src dst) s (shiftBy shiftArithmetical count src dst s) := fun _ => ⟨rfl, rfl⟩

/-- A zero-count LSHC copies (R257). -/
theorem yields_lshc_zero : Yields (.lshc 0 src dst) s (shiftEffect (s.readGr src) dst s) := fun _ => ⟨rfl, rfl⟩

/-- SHIFT_DECODE given entry by entry: the zero field by the distance 0, the others by the table (R246; log 12). -/
theorem shiftBy_eq {f : Word → Dir → Nat → Word} (hf : ∀ x dir, f x dir 0 = x) {dir : Dir} {n : Fin 33}
    (hzero : count = 0#6 → n = 0) (htable : count ≠ 0#6 → s.par.shiftTable[count.toNat] = (dir, n)) :
    shiftBy f count src dst s = shiftEffect (f (s.readGr src) dir n.val) dst s := by
  rw [shiftBy, shiftDecode]
  by_cases h : count = 0#6
  · rw [if_pos h, hzero h]
    exact congrArg (shiftEffect · dst s) ((hf _ _).trans (hf _ _).symm)
  · rw [if_neg h, htable h]

/-- Under SHIFT_FLAGS = none a shift writes GRdst alone (R245). -/
theorem opRuns_of_shiftEffect {row : Instr → Instr} {res : Word} (hmode : s.par.shiftFlags = .none)
    (h : Yields row s (shiftEffect res dst s)) : OpRuns row s [dst] false fun u => u.setGr dst res := by
  simp only [shiftEffect, hmode] at h
  exact opRuns_of_grs h

/-- Under SHIFT_FLAGS = store it also stores N and Z of its result, with free values for C and V (R245, R250; log 15). -/
theorem opRuns_of_shiftEffect_store {row : Instr → Instr} {res : Word} (hmode : s.par.shiftFlags = .store)
    (h : Yields row s (shiftEffect res dst s)) :
    OpRuns row s [dst] true fun u =>
      { u.setGr dst res with
        pswr := storeFlags s.par.pswrLayout u.pswr
          { n := res.getLsbD 31, z := decide (res = 0), v := Config.undefinedV s.draws, c := Config.undefinedC s.draws }
        draws := s.draws + 1 } := by
  simp only [shiftEffect, hmode] at h
  exact opRuns_of_storesFree h

end

/-- Settles O40: each shift row writes its word, and the words are told bit by bit. -/
theorem shiftsBitByBit : Obligations.ShiftsBitByBit := by
  intro count src dst dir n s hmode hzero htable
  refine ⟨rotate (s.readGr src) dir n.val, shiftLogical (s.readGr src) dir n.val, shiftArithmetical (s.readGr src) dir n.val,
    fun hnull => ?_, ?_, ?_, fun b hb => ⟨?_, ?_⟩⟩
  · exact opRuns_of_shiftEffect hmode (shiftBy_eq rotate_zero hzero htable ▸ yields_rot hnull)
  · exact opRuns_of_shiftEffect hmode (shiftBy_eq shiftLogical_zero hzero htable ▸ yields_lsh)
  · exact opRuns_of_shiftEffect hmode (shiftBy_eq shiftArithmetical_zero hzero htable ▸ yields_ash)
  · rintro rfl
    exact ⟨getLsbD_rotate_left _ _ hb, getLsbD_shiftLogical_left _ _ hb, rfl⟩
  · rintro rfl
    exact ⟨getLsbD_rotate_right _ _ hb, getLsbD_shiftLogical_right _ _ _, getLsbD_shiftArithmetical_right _ _ hb⟩

/-- Settles O41: the free values are those of the counter before the word, the same for the three shifts. -/
theorem shiftsThatStoreFlags : Obligations.ShiftsThatStoreFlags := by
  intro count src dst s hmode
  exact ⟨Config.undefinedC s.draws, Config.undefinedV s.draws,
    fun hnull => opRuns_of_shiftEffect_store hmode (yields_rot hnull), opRuns_of_shiftEffect_store hmode yields_lsh,
    opRuns_of_shiftEffect_store hmode yields_ash⟩

/-- Settles O42: a zero count has the effect of a shift whose word is GRsrc, any other count is refused (R257). -/
theorem shiftThroughCarry : Obligations.ShiftThroughCarry := by
  intro src dst s
  refine ⟨fun hmode => opRuns_of_shiftEffect hmode yields_lshc_zero,
    fun hmode => ⟨_, _, opRuns_of_shiftEffect_store hmode yields_lshc_zero⟩, fun count p hcount hp => ?_⟩
  refine exec_of_opPart_refused hp rfl ?_
  simp only [opPart, opLshc, if_neg hcount]

end Sys2Proof.Machine
end

section
/-!
Interrupts: which request is taken and when (R303, R304, R309, R313; log 21), and what entering one does (R310, R311, R312).
-/

namespace Sys2Proof.Machine

/-! ### The request of highest priority (R303, R304) -/

theorem mem_irqOrder (n : Irq) : n ∈ irqOrder := List.mem_of_getElem? (irqOrder_row n)

/-- The rows of Table 4-1 number the order of priority (R301, R304). -/
theorem row_irqOrder {i : Nat} (h : i < irqOrder.length) : (Irq.row irqOrder[i]).val = i :=
  (by decide : ∀ i, (Irq.row (irqOrder.get i)).val = i.val) ⟨i, h⟩

/-- The search in the order of priority stops at the first request that is enabled. -/
theorem State.enabledIrq_eq_some {s : State} {n : Irq} :
    s.enabledIrq = some n ↔ (s.req n = true ∧ s.irqEnabled n = true) ∧
      ∀ m, Irq.row m < Irq.row n → ¬ (s.req m = true ∧ s.irqEnabled m = true) := by
  simp only [State.enabledIrq, List.find?_eq_some_iff_getElem, Bool.not_eq_true', ← Bool.not_eq_true, Bool.and_eq_true]
  refine and_congr_right fun _ => ⟨?_, fun hfirst => ?_⟩
  · rintro ⟨i, hi, rfl, hbefore⟩ m hm
    obtain ⟨hlt, hget⟩ := List.getElem?_eq_some_iff.1 (irqOrder_row m)
    rw [Fin.lt_def, row_irqOrder hi] at hm
    simpa only [hget] using hbefore _ hm
  · obtain ⟨hlt, hget⟩ := List.getElem?_eq_some_iff.1 (irqOrder_row n)
    refine ⟨_, hlt, hget, fun j hj => hfirst _ ?_⟩
    rw [Fin.lt_def, row_irqOrder]
    exact hj

theorem State.enabledIrq_eq_none {s : State} :
    s.enabledIrq = none ↔ ∀ n, ¬ (s.req n = true ∧ s.irqEnabled n = true) := by
  simp [State.enabledIrq, List.find?_eq_none, mem_irqOrder]

/-! ### The decision (R309; log 21) -/

theorem State.irqPoint_iff {s : State} : s.irqPoint = true ↔ s.slot = false ∧ s.pending = none := by
  simp [State.irqPoint]

/-- The wait at a decision with an enabled request: the running one, or the one drawn now. -/
def State.waitNow (s : State) : Nat := s.irqWait.getD (Config.irqLatency s.draws)

section
variable {s : State} {n : Irq}

theorem irqDecision_of_not_point (h : ¬ s.irqPoint = true) : irqDecision s = (none, s) := by
  rw [irqDecision, if_neg h]

theorem irqDecision_of_none (hp : s.irqPoint = true) (hn : s.enabledIrq = none) :
    irqDecision s = (none, { s with irqWait := none }) := by
  rw [irqDecision, if_pos hp, hn]

theorem irqDecision_of_wait_over (hp : s.irqPoint = true) (hn : s.enabledIrq = some n) (hw : s.waitNow = 0) :
    irqDecision s = (some n, { s.advanceDraws s.irqWait.isNone with irqWait := none }) := by
  rw [State.waitNow] at hw
  simp only [irqDecision, if_pos hp, hn, hw]

theorem irqDecision_of_wait_running {k : Nat} (hp : s.irqPoint = true) (hn : s.enabledIrq = some n)
    (hw : s.waitNow = k + 1) :
    irqDecision s = (none, { s.advanceDraws s.irqWait.isNone with irqWait := some k }) := by
  rw [State.waitNow] at hw
  simp only [irqDecision, if_pos hp, hn, hw]

end

/-- Settles O56: the enabled interrupt of highest priority meets each outcome of the wait. -/
theorem highestPriorityRequestIsTaken : Obligations.HighestPriorityRequestIsTaken := by
  refine ⟨fun s hslot hpend => ?_, fun s => ⟨fun h => irqDecision_of_not_point ?_, fun n t h => ?_⟩⟩
  · have hp : s.irqPoint = true := State.irqPoint_iff.2 ⟨hslot, hpend⟩
    refine ⟨fun n hreq hen hfirst => ?_, fun hnone => irqDecision_of_none hp (State.enabledIrq_eq_none.2 hnone)⟩
    have hn : s.enabledIrq = some n := State.enabledIrq_eq_some.2 ⟨⟨hreq, hen⟩, hfirst⟩
    refine ⟨fun hw => ?_, fun k hw => ?_⟩
    · rw [irqDecision_of_wait_over hp hn (by rw [State.waitNow, hw]; rfl), hw]
      rfl
    · rw [irqDecision_of_wait_running hp hn (by rw [State.waitNow, hw]; rfl), hw]
      rfl
  · rw [State.irqPoint_iff]
    rintro ⟨hslot, hpend⟩
    rcases h with h | h
    · exact absurd (hslot.symm.trans h) (by decide)
    · exact h hpend
  · obtain ⟨hp, hn⟩ := irqDecision_some (congrArg Prod.fst h)
    obtain ⟨hslot, hpend⟩ := State.irqPoint_iff.1 hp
    obtain ⟨⟨hreq, hen⟩, -⟩ := State.enabledIrq_eq_some.1 hn
    exact ⟨hslot, hpend, hreq, hen⟩

/-! ### Waiting ends -/

/-- Of the decisions from `s` on, nothing else changing between them, the first `k` take nothing and the next takes `n`. -/
def TakenAfter (n : Irq) (s : State) (k : Nat) : Prop :=
  (∀ j, j < k → (irqDecision ((fun x => (irqDecision x).2)^[j] s)).1 = none) ∧
    (irqDecision ((fun x => (irqDecision x).2)^[k] s)).1 = some n

theorem TakenAfter.zero {n : Irq} {s : State} (h : (irqDecision s).1 = some n) : TakenAfter n s 0 := ⟨nofun, h⟩

theorem TakenAfter.succ {n : Irq} {s : State} {k : Nat} (hnow : (irqDecision s).1 = none)
    (hlater : TakenAfter n (irqDecision s).2 k) : TakenAfter n s (k + 1) := by
  obtain ⟨hnone, htaken⟩ := hlater
  refine ⟨fun j hj => ?_, htaken⟩
  cases j with
  | zero => exact hnow
  | succ j => exact hnone j (Nat.lt_of_succ_lt_succ hj)

/-- The wait is the number of decisions that take nothing, as each counts it down and changes no request. -/
theorem takenAfter_waitNow {n : Irq} {s : State} (hp : s.irqPoint = true) (hn : s.enabledIrq = some n) :
    TakenAfter n s s.waitNow := by
  induction hw : s.waitNow generalizing s with
  | zero => exact .zero (by rw [irqDecision_of_wait_over hp hn hw])
  | succ k ih =>
    have hnow := irqDecision_of_wait_running hp hn hw
    refine .succ (by rw [hnow]) ?_
    have hleft : (irqDecision s).2.waitNow = k := by rw [hnow]; rfl
    obtain ⟨w, d, hframe⟩ := irqDecision_frame s
    exact ih (by rw [hframe]; exact hp) (by rw [hframe]; exact hn) hleft

/-- Settles O57: after as many decisions as the wait says. -/
theorem enabledRequestIsTakenInTheEnd : Obligations.EnabledRequestIsTakenInTheEnd :=
  fun s _ hslot hpend hn => ⟨s.waitNow, takenAfter_waitNow (State.irqPoint_iff.2 ⟨hslot, hpend⟩) hn⟩

/-! ### The entry (R310) -/

/-- Clearing a request leaves the nine others (R302). -/
theorem State.req_clearReq (s : State) (m n : Irq) : (s.clearReq m).req n = (s.req n && decide (n ≠ m)) := by
  have hbit : (1#10 <<< (Irq.row m).val).getLsbD (Irq.row n).val = decide (n = m) := by
    simpa [State.req, State.raise] using State.req_raise { s with requests := 0 } m n
  rw [State.req, State.clearReq, BitVec.getLsbD_and, BitVec.getLsbD_not, hbit, decide_eq_true (Irq.row n).isLt,
    Bool.true_and, decide_not, State.req]

/-- A word made of predicates has in each place the predicate of that place (log 22). -/
theorem getLsbD_wordOfPredicates (bits : Vector PswrPredicate 32) (pswr : Word) (b : Fin 32) :
    (wordOfPredicates bits pswr).getLsbD b.val = pswrHolds bits[b.val] pswr := by
  have step (bs : List (Fin 32)) (w : Word) :
      (bs.foldl (fun w b => if pswrHolds bits[b.val] pswr then w ||| (1#32 <<< b.val) else w) w).getLsbD b.val =
        (w.getLsbD b.val || bs.any fun c => pswrHolds bits[c.val] pswr && decide (c = b)) := by
    induction bs generalizing w with
    | nil => simp
    | cons c rest ih =>
      rw [List.foldl_cons, ih, List.any_cons]
      cases pswrHolds bits[c.val] pswr
      · rfl
      · rw [if_pos rfl, BitVec.getLsbD_or, getLsbD_bitAt, Bool.true_and, Bool.or_assoc]
  rw [wordOfPredicates, step, BitVec.getLsbD_zero, Bool.false_or, Bool.eq_iff_iff, List.any_eq_true]
  simp

/-- Table 4-1 pairs each interrupt with its starting address (R301). -/
theorem eq_vector_of_mem_table {n : Irq} {start : Word}
    (h : (n, start) ∈ irqOrder.map fun m => (m, Irq.vector m)) : start = Irq.vector n := by
  obtain ⟨m, -, hm⟩ := List.mem_map.1 h
  cases hm
  rfl

/-- The state that entering interrupt `n` leaves (R310). -/
def State.entered (s : State) (n : Irq) : State :=
  { (s.push s.pc).clearReq n with
    pswr := irqEntryPswr s.par.irqEntryPswr s.pswr n, pc := Irq.vector n, slot := false }

/-- Entering completes where the stack words are plain memory (R310). -/
theorem enterInterrupt_of_accessible {s : State} (n : Irq) (ha : Accessible s s.pushAddr true) :
    enterInterrupt n s = .next (s.entered n) := enterInterrupt_eq_next.2 ⟨ha, rfl⟩

theorem State.req_entered (s : State) (m n : Irq) : (s.entered m).req n = (s.req n && decide (n ≠ m)) := by
  refine Eq.trans (State.req_congr (t := s.clearReq m) ?_ n) (State.req_clearReq s m n)
  simp [State.entered, State.push, State.clearReq]

/-- Settles O55: the entry is a push, one request cleared, and PSWR and PC set. -/
theorem interruptEntry : Obligations.InterruptEntry := by
  refine ⟨fun s s1 n h => by rw [step, stepOnce, h], fun s n start hstart ha => ?_⟩
  obtain rfl := eq_vector_of_mem_table hstart
  rw [← State.pushAddr_eq] at ha
  refine ⟨s.entered n, enterInterrupt_of_accessible n ha, pushed_push s s.pc, ?_, fun m hm => ?_, fun hid => ?_,
    fun bits hbits b => ?_, rfl⟩
  · rw [State.req_entered, decide_eq_false (not_not.2 rfl), Bool.and_false]
  · rw [State.req_entered, decide_eq_true hm, Bool.and_true]
  · simp only [State.entered, irqEntryPswr, hid]
  · simp only [State.entered, irqEntryPswr, hbits]
    rw [getLsbD_wordOfPredicates, pswrHolds_iff]

end Sys2Proof.Machine
end
